-- ==== Sys2Proof/Word.lean ====
section
/-! DEFINITION. The word types of the machine and the operand width of one ALU operation
(spec/00_scope.md R8, R10). -/

namespace Sys2Proof

/-- Contents of a general register, of SP and of PC (R20, R30). -/
abbrev Word := BitVec 64

/-- One byte of memory (R60). -/
abbrev Byte := BitVec 8

/-- `reg_size` of an instruction: its `sf` field selects 32 (`sf = 0`) or 64 (`sf = 1`) bits (R10). -/
abbrev width (sf : Bool) : Nat :=
  match sf with
  | false => 32
  | true => 64

/-- The sentinel address that ends a run (R7, `kEndOfSimAddress`). -/
def endOfSimAddress : Word := 0#64

end Sys2Proof
end

