-- ==== Sys2Proof/Syntax/Operands.lean ====
section
/-! DEFINITION. The kinds of operand that instructions name: register numbers, shift and extend
types, access sizes (spec/30_encoding.md R91, R121, R122; spec/47_loadstore.md R372). -/

namespace Sys2Proof

/-- A register number field, 0 to 31; what 31 names depends on the operand (R20, R28). -/
abbrev RegNum := BitVec 5

/-- A condition field (R122). -/
abbrev Cond := BitVec 4

/-- Shift type of a shifted-register operand (R91, R100). -/
inductive ShiftType where
  | lsl
  | lsr
  | asr
  | ror
  deriving DecidableEq, Repr, Inhabited

/-- Extension type of an extended-register or register-offset operand (R91, R102). -/
inductive ExtendType where
  | uxtb
  | uxth
  | uxtw
  | uxtx
  | sxtb
  | sxth
  | sxtw
  | sxtx
  deriving DecidableEq, Repr, Inhabited

/-- The `size` field of the exclusive, ordered and atomic accesses: byte, halfword, word,
doubleword (R372). -/
inductive AccessSize where
  | b
  | h
  | w
  | x
  deriving DecidableEq, Repr, Inhabited

/-- The thirteen single-register loads and stores of R355, each with five addressing forms. -/
inductive LdStKind where
  | strb
  | ldrb
  | ldrsbX
  | ldrsbW
  | strh
  | ldrh
  | ldrshX
  | ldrshW
  | strW
  | ldrW
  | ldrsw
  | strX
  | ldrX
  deriving DecidableEq, Repr, Inhabited

end Sys2Proof
end

