-- ==== Sys2Proof/Syntax/Format.lean ====
section
/-! DEFINITION. The instruction formats: one constructor per format table of spec/30_encoding.md
(R94 to R114) and of spec/47_loadstore.md R372, its fields the variable fields of the table from the
highest bit to the lowest. A format carries raw fields; which of them are instructions is
Sys2Proof.Decode's to say. -/

namespace Sys2Proof

/-- A 32-bit word split by its format. -/
inductive Format where
  /-- R94. -/
  | pcRel (op : BitVec 1) (immlo : BitVec 2) (immhi : BitVec 19) (rd : RegNum)
  /-- R95. -/
  | addSubImm (sf op setFlags sh : BitVec 1) (imm12 : BitVec 12) (rn rd : RegNum)
  /-- R96. -/
  | logicalImm (sf : BitVec 1) (opc : BitVec 2) (n : BitVec 1) (immr imms : BitVec 6) (rn rd : RegNum)
  /-- R97. -/
  | moveWide (sf : BitVec 1) (opc hw : BitVec 2) (imm16 : BitVec 16) (rd : RegNum)
  /-- R98. -/
  | bitfield (sf : BitVec 1) (opc : BitVec 2) (n : BitVec 1) (immr imms : BitVec 6) (rn rd : RegNum)
  /-- R99; `op21` is bits [30:29] and `o0` bit 21, both zero in EXTR. -/
  | extract (sf : BitVec 1) (op21 : BitVec 2) (n o0 : BitVec 1) (rm : RegNum) (imms : BitVec 6) (rn rd : RegNum)
  /-- R100. -/
  | logicalShift (sf : BitVec 1) (opc shift : BitVec 2) (n : BitVec 1) (rm : RegNum) (imm6 : BitVec 6) (rn rd : RegNum)
  /-- R101. -/
  | addSubShift (sf op setFlags : BitVec 1) (shift : BitVec 2) (rm : RegNum) (imm6 : BitVec 6) (rn rd : RegNum)
  /-- R102; `opt` is bits [23:22], zero in every instruction. -/
  | addSubExt (sf op setFlags : BitVec 1) (opt : BitVec 2) (rm : RegNum) (option imm3 : BitVec 3) (rn rd : RegNum)
  /-- R103; `opcode2` is bits [15:10], zero in every instruction. -/
  | addSubCarry (sf op setFlags : BitVec 1) (rm : RegNum) (opcode2 : BitVec 6) (rn rd : RegNum)
  /-- R104; `o2` is bit 10 and `o3` bit 4, both zero in every instruction. -/
  | condCmp (sf op setFlags : BitVec 1) (rmImm5 : BitVec 5) (cond : Cond) (i o2 : BitVec 1) (rn : RegNum) (o3 : BitVec 1) (nzcv : BitVec 4)
  /-- R105. -/
  | condSel (sf op setFlags : BitVec 1) (rm : RegNum) (cond : Cond) (op2 : BitVec 2) (rn rd : RegNum)
  /-- R106; `opcode2` is bits [20:16], zero but in the pointer-authentication space. -/
  | dp1 (sf : BitVec 1) (opcode2 : BitVec 5) (opcode : BitVec 6) (rn rd : RegNum)
  /-- R107. -/
  | dp2 (sf : BitVec 1) (rm : RegNum) (opcode : BitVec 6) (rn rd : RegNum)
  /-- R108; `op54` is bits [30:29], zero in every instruction. -/
  | dp3 (sf : BitVec 1) (op54 : BitVec 2) (op31 : BitVec 3) (rm : RegNum) (o0 : BitVec 1) (ra rn rd : RegNum)
  /-- R109. -/
  | branchImm (op : BitVec 1) (imm26 : BitVec 26)
  /-- R110. -/
  | compareBranch (sf op : BitVec 1) (imm19 : BitVec 19) (rt : RegNum)
  /-- R111. -/
  | testBranch (b5 op : BitVec 1) (b40 : BitVec 5) (imm14 : BitVec 14) (rt : RegNum)
  /-- R112; `o1` is bit 24 and `o0` bit 4, both zero in B.cond. -/
  | condBranch (o1 : BitVec 1) (imm19 : BitVec 19) (o0 : BitVec 1) (cond : Cond)
  /-- R113; `op2` is bits [20:16], `op3` bits [15:10], `op4` bits [4:0]. -/
  | branchReg (opc : BitVec 4) (op2 : BitVec 5) (op3 : BitVec 6) (rn : RegNum) (op4 : BitVec 5)
  /-- R114, HLT and the other exception-generating instructions: `opc` is bits [23:21], `ll` bits [4:0]. -/
  | exception (opc : BitVec 3) (imm16 : BitVec 16) (ll : BitVec 5)
  /-- R114, MRS (`l` = 1) and MSR (`l` = 0); `sysreg` is the 15-bit field of R118. -/
  | sysRegMove (l : BitVec 1) (sysreg : BitVec 15) (rt : RegNum)
  /-- R114, hints: `imm7` is CRm:op2. -/
  | hint (imm7 : BitVec 7)
  /-- R114, CLREX and the barriers: told apart by `op2`, bits [7:5]. -/
  | barrier (crm : BitVec 4) (op2 : BitVec 3)
  /-- R114, SYS. -/
  | sysOp (op1 : BitVec 3) (crn crm : BitVec 4) (op2 : BitVec 3) (rt : RegNum)
  /-- R114, UDF. -/
  | udf (imm16 : BitVec 16)
  /-- R372, unsigned offset. -/
  | ldstUnsigned (size opc : BitVec 2) (imm12 : BitVec 12) (rn rt : RegNum)
  /-- R372, unscaled (`mode` 00), post-index (01), pre-index (11). -/
  | ldstSigned (size opc : BitVec 2) (imm9 : BitVec 9) (mode : BitVec 2) (rn rt : RegNum)
  /-- R372, register offset. -/
  | ldstRegister (size opc : BitVec 2) (rm : RegNum) (option : BitVec 3) (scaled : BitVec 1) (rn rt : RegNum)
  /-- R372, pairs: `mode` is bits [24:23], 01 post-index, 10 offset, 11 pre-index; `l` = 1 is a load. -/
  | ldstPair (opc mode : BitVec 2) (l : BitVec 1) (imm7 : BitVec 7) (rt2 rn rt : RegNum)
  /-- R372, literal. -/
  | ldLiteral (opc : BitVec 2) (imm19 : BitVec 19) (rt : RegNum)
  /-- R372, the exclusives, LDAR, STLR and CAS: `o2` is bit 23, `l` bit 22, `o1` bit 21, `o0` bit 15. -/
  | ldstExclusive (size : BitVec 2) (o2 l o1 : BitVec 1) (rs : RegNum) (o0 : BitVec 1) (rt2 rn rt : RegNum)
  /-- R372, SWP, LD<op> and LDAPR: `a` is bit 23, `r` bit 22, `o3` bit 15. -/
  | atomic (size : BitVec 2) (a r : BitVec 1) (rs : RegNum) (o3 : BitVec 1) (opc : BitVec 3) (rn rt : RegNum)
  deriving DecidableEq, Repr

end Sys2Proof
end

