-- ==== Sys2Proof/Machine/Alu.lean ====
section
/-! DEFINITION. The ALU primitives: combinational functions that read and write no state
(spec/40_alu_primitives.md R133 to R149; spec/30_encoding.md R116). `addWithCarry` and
`conditionHolds`, which produce and read flags, are in Sys2Proof.Machine.Flags. -/

namespace Sys2Proof.Machine

/-! ## Bit strings (R8) -/

/-- The `n`-bit string whose bit `i` is `f i`. -/
def bitsOfFn : (n : Nat) → (Nat → Bool) → BitVec n
  | 0, _ => 0#0
  | n + 1, f => BitVec.cons (f n) (bitsOfFn n f)

/-- `to_bits(n, k)` of an integer: `k` modulo 2^n (R8). -/
def toBits (n : Nat) (k : Int) : BitVec n := BitVec.ofInt n k

/-- `ones(k)` where an `n`-bit value is expected: the low `k` bits set (R8). -/
def lowOnes (n k : Nat) : BitVec n := bitsOfFn n fun i => decide (i < k)

/-- `ROR_n(v, k)` for `k < n`: result bit `i` is bit `(i + k) mod n` of `v` (R8). -/
def rotr (n : Nat) (v : BitVec n) (k : Nat) : BitVec n :=
  bitsOfFn n fun i => v.getLsbD ((i + k) % n)

/-! ## Shift (R133 to R137) -/

/-- `Shift(n, v, type, k)` inside its domain `k < n`: callers go through `shift?`. -/
def shift (n : Nat) (v : BitVec n) (ty : ShiftType) (k : Nat) : BitVec n :=
  match ty with
  | .lsl => v <<< k
  | .lsr => v >>> k
  | .asr => v.sshiftRight k
  | .ror => rotr n v k

/-- `Shift` with its domain: an amount of `n` or more is refused, no value is picked (R133, D14). -/
def shift? (n : Nat) (v : BitVec n) (ty : ShiftType) (k : Nat) : Option (BitVec n) :=
  if k < n then some (shift n v ty k) else none

/-! ## Extend (R138) -/

/-- The width in bits an extend type takes of its operand, before the cap at `n` (R138). -/
def extendWidth : ExtendType → Nat
  | .uxtb | .sxtb => 8
  | .uxth | .sxth => 16
  | .uxtw | .sxtw => 32
  | .uxtx | .sxtx => 64

/-- Whether an extend type sign-fills (R138). -/
def extendSigned : ExtendType → Bool
  | .uxtb | .uxth | .uxtw | .uxtx => false
  | .sxtb | .sxth | .sxtw | .sxtx => true

/-- `Extend(n, v, type, k)` inside its domain `k <= 4` (R138). -/
def extend (n : Nat) (v : BitVec n) (ty : ExtendType) (k : Nat) : BitVec n :=
  let x := v.setWidth (min (extendWidth ty) n)
  let e := if extendSigned ty then x.signExtend n else x.setWidth n
  e <<< k

/-- `Extend` with its domain: a left shift above 4 is refused (R138, D15). -/
def extend? (n : Nat) (v : BitVec n) (ty : ExtendType) (k : Nat) : Option (BitVec n) :=
  if k ≤ 4 then some (extend n v ty k) else none

/-! ## Bitfield (R139) -/

/-- `Bitfield(n, src, dst, R, S, inzero, extend)` for `r < n` and `s < n` (R139). -/
def bitfield (n : Nat) (src dst : BitVec n) (r s : Nat) (inzero ext : Bool) : BitVec n :=
  let rot := rotr n src r
  let diff := if s ≥ r then s - r else s + n - r
  let mask := if s ≥ r then lowOnes n (diff + 1) else rotr n (lowOnes n (s + 1)) r
  let top := ~~~ lowOnes n (diff + 1)
  let base := if inzero then 0#n else dst
  let sign := if ext && src.getLsbD s then top else 0#n
  sign ||| (rot &&& mask) ||| (base &&& ~~~ mask)

/-- Bits `[lsb + n - 1 : lsb]` of the concatenation `hi : lo` (R255). -/
def extractPair (n : Nat) (hi lo : BitVec n) (lsb : Nat) : BitVec n :=
  (hi ++ lo).extractLsb' lsb n

/-! ## Counts and reversals (R140 to R143) -/

/-- `CLZ(n, x)` (R140). -/
def clz (n : Nat) (x : BitVec n) : Nat :=
  if x = 0#n then n else n - 1 - x.toNat.log2

/-- `CLS(n, x) = CLZ(n - 1, x[n-1:1] EOR x[n-2:0])` (R141). -/
def cls (n : Nat) (x : BitVec n) : Nat :=
  clz (n - 1) (x.extractLsb' 1 (n - 1) ^^^ x.extractLsb' 0 (n - 1))

/-- `ReverseBits(m, x)`: result bit `i` is bit `m - 1 - i` (R142). -/
def reverseBits (m : Nat) (x : BitVec m) : BitVec m :=
  bitsOfFn m fun i => x.getLsbD (m - 1 - i)

/-- The bit of `x` that bit `i` of `ReverseBytes` comes from: in container `i / block`, byte `j`
of the result is byte `block / 8 - 1 - j` of the source (R143). -/
def reverseBytesSource (block i : Nat) : Nat :=
  block * (i / block) + 8 * (block / 8 - 1 - i % block / 8) + i % 8

/-- `ReverseBytes(n, x, block)`, `block` 16, 32 or 64 and at most `n` (R143). -/
def reverseBytes (n : Nat) (x : BitVec n) (block : Nat) : BitVec n :=
  bitsOfFn n fun i => x.getLsbD (reverseBytesSource block i)

/-! ## CRC32 (R144, R146) -/

/-- The polynomial of CRC32 (R146). -/
def polyCrc32 : BitVec 32 := 0x04C11DB7#32

/-- The polynomial of CRC32C (R146). -/
def polyCrc32c : BitVec 32 := 0x1EDC6F41#32

/-- The long division loop of `Poly32Mod2`, from bit `32 + steps - 1` down to bit 32 (R144). -/
def poly32Steps (m : Nat) (poly : BitVec 32) : (steps : Nat) → BitVec m → BitVec m
  | 0, d => d
  | k + 1, d =>
    let d' :=
      if d.getLsbD (32 + k) then
        (d &&& ~~~ (BitVec.twoPow m (32 + k))) ^^^ (poly.setWidth m <<< k)
      else d
    poly32Steps m poly k d'

/-- `Poly32Mod2(m, data, poly)`, `m > 32` (R144). -/
def poly32Mod2 (m : Nat) (data : BitVec m) (poly : BitVec 32) : BitVec 32 :=
  (poly32Steps m poly (m - 32) data).setWidth 32

/-- `Crc32(acc, val, size, poly)` (R146). -/
def crc32 (acc : BitVec 32) (size : Nat) (val : BitVec size) (poly : BitVec 32) : BitVec 32 :=
  let tempacc : BitVec (32 + size) := reverseBits 32 acc ++ 0#size
  let tempval : BitVec (32 + size) := (reverseBits size val).setWidth (32 + size) <<< 32
  reverseBits 32 (poly32Mod2 (32 + size) (tempacc ^^^ tempval) poly)

/-! ## Division and high multiply (R148, R149) -/

/-- `UDiv(n, a, b)`: division by zero yields 0 (R148). -/
def uDiv (n : Nat) (a b : BitVec n) : BitVec n :=
  if b = 0#n then 0#n else toBits n (a.toNat / b.toNat : Nat)

/-- `SDiv(n, a, b)`: quotient truncated toward zero, division by zero yields 0 (R148). -/
def sDiv (n : Nat) (a b : BitVec n) : BitVec n :=
  if b = 0#n then 0#n else toBits n (a.toInt.tdiv b.toInt)

/-- `MulHigh(signed, a, b)`: bits [127:64] of the 128-bit product (R149). -/
def mulHigh (signed : Bool) (a b : Word) : Word :=
  let product : Int := if signed then a.toInt * b.toInt else (a.toNat : Int) * (b.toNat : Int)
  (toBits 128 product).extractLsb' 64 64

/-! ## Immediates (R115 to R120) -/

/-- Add/subtract immediate: `imm12`, shifted left by 12 when `sh` is 1 (R115). -/
def addSubImmediate (n : Nat) (sh : Bool) (imm12 : BitVec 12) : BitVec n :=
  imm12.setWidth n <<< (if sh then 12 else 0)

/-- Index of the highest set bit, `none` for zero. -/
def highestSetBit {n : Nat} (v : BitVec n) : Option Nat :=
  if v = 0#n then none else some v.toNat.log2

/-- `DecodeBitMasks(N, imms, immr, n)`; `none` where the encoding is unallocated (R116). -/
def decodeBitMasks (n : Nat) (nBit : Bool) (imms immr : BitVec 6) : Option (BitVec n) :=
  match highestSetBit (BitVec.ofBool nBit ++ ~~~ imms) with
  | none => none
  | some len =>
    let esize := 2 ^ len
    let levels := esize - 1
    let s := imms.toNat % esize
    let r := immr.toNat % esize
    if len < 1 ∨ esize > n ∨ s = levels then none
    else
      let elem := rotr esize (lowOnes esize (s + 1)) r
      some (bitsOfFn n fun i => elem.getLsbD (i % esize))

/-- Move-wide position: `16 * hw` (R117). -/
def moveWidePos (hw : BitVec 2) : Nat := 16 * hw.toNat

/-- A branch or literal offset: the immediate is a signed count of words (R119). -/
def wordOffset {k : Nat} (imm : BitVec k) : Word := (imm ++ 0#2).signExtend 64

/-- ADR immediate (R120). -/
def adrOffset (immhi : BitVec 19) (immlo : BitVec 2) : Word := (immhi ++ immlo).signExtend 64

/-- ADRP immediate (R120). -/
def adrpOffset (immhi : BitVec 19) (immlo : BitVec 2) : Word :=
  (immhi ++ immlo ++ 0#12).signExtend 64

end Sys2Proof.Machine
end

