-- ==== Sys2Proof/Syntax.lean ====
section
/-! DEFINITION. The instructions: one constructor per row of spec/opcode_table.json, in the table's
order, its fields the row's fields from the highest bit to the lowest. One-bit fields are `Bool`
(`true` is 1). A field named `size`, `shift` or `option` is an enumeration of
Sys2Proof.Syntax.Operands; `A` is `acq` (acquire), `L` and `R` of the atomics are `rel` (release),
`N` is `nBit`, `S` is `scaled`. -/

namespace Sys2Proof

/-- One decoded instruction (spec/30_encoding.md R90, R91). -/
inductive Instr where
  /-- ADD (immediate) (R173). -/
  | addImmediate (sf sh : Bool) (imm12 : BitVec 12) (rn rd : RegNum)
  /-- ADDS (immediate) (R174). -/
  | addsImmediate (sf sh : Bool) (imm12 : BitVec 12) (rn rd : RegNum)
  /-- SUB (immediate) (R175). -/
  | subImmediate (sf sh : Bool) (imm12 : BitVec 12) (rn rd : RegNum)
  /-- SUBS (immediate) (R176). -/
  | subsImmediate (sf sh : Bool) (imm12 : BitVec 12) (rn rd : RegNum)
  /-- ADD (shifted register) (R177). -/
  | addShiftedRegister (sf : Bool) (shift : ShiftType) (rm : RegNum) (imm6 : BitVec 6) (rn rd : RegNum)
  /-- ADDS (shifted register) (R178). -/
  | addsShiftedRegister (sf : Bool) (shift : ShiftType) (rm : RegNum) (imm6 : BitVec 6) (rn rd : RegNum)
  /-- SUB (shifted register) (R179). -/
  | subShiftedRegister (sf : Bool) (shift : ShiftType) (rm : RegNum) (imm6 : BitVec 6) (rn rd : RegNum)
  /-- SUBS (shifted register) (R180). -/
  | subsShiftedRegister (sf : Bool) (shift : ShiftType) (rm : RegNum) (imm6 : BitVec 6) (rn rd : RegNum)
  /-- ADD (extended register) (R181). -/
  | addExtendedRegister (sf : Bool) (rm : RegNum) (ext : ExtendType) (imm3 : BitVec 3) (rn rd : RegNum)
  /-- ADDS (extended register) (R182). -/
  | addsExtendedRegister (sf : Bool) (rm : RegNum) (ext : ExtendType) (imm3 : BitVec 3) (rn rd : RegNum)
  /-- SUB (extended register) (R183). -/
  | subExtendedRegister (sf : Bool) (rm : RegNum) (ext : ExtendType) (imm3 : BitVec 3) (rn rd : RegNum)
  /-- SUBS (extended register) (R184). -/
  | subsExtendedRegister (sf : Bool) (rm : RegNum) (ext : ExtendType) (imm3 : BitVec 3) (rn rd : RegNum)
  /-- ADC (R185). -/
  | adc (sf : Bool) (rm rn rd : RegNum)
  /-- ADCS (R186). -/
  | adcs (sf : Bool) (rm rn rd : RegNum)
  /-- SBC (R187). -/
  | sbc (sf : Bool) (rm rn rd : RegNum)
  /-- SBCS (R188). -/
  | sbcs (sf : Bool) (rm rn rd : RegNum)
  /-- AND (shifted register) (R202). -/
  | andShiftedRegister (sf : Bool) (shift : ShiftType) (rm : RegNum) (imm6 : BitVec 6) (rn rd : RegNum)
  /-- BIC (shifted register) (R203). -/
  | bicShiftedRegister (sf : Bool) (shift : ShiftType) (rm : RegNum) (imm6 : BitVec 6) (rn rd : RegNum)
  /-- ORR (shifted register) (R204). -/
  | orrShiftedRegister (sf : Bool) (shift : ShiftType) (rm : RegNum) (imm6 : BitVec 6) (rn rd : RegNum)
  /-- ORN (shifted register) (R205). -/
  | ornShiftedRegister (sf : Bool) (shift : ShiftType) (rm : RegNum) (imm6 : BitVec 6) (rn rd : RegNum)
  /-- EOR (shifted register) (R206). -/
  | eorShiftedRegister (sf : Bool) (shift : ShiftType) (rm : RegNum) (imm6 : BitVec 6) (rn rd : RegNum)
  /-- EON (shifted register) (R207). -/
  | eonShiftedRegister (sf : Bool) (shift : ShiftType) (rm : RegNum) (imm6 : BitVec 6) (rn rd : RegNum)
  /-- ANDS (shifted register) (R208). -/
  | andsShiftedRegister (sf : Bool) (shift : ShiftType) (rm : RegNum) (imm6 : BitVec 6) (rn rd : RegNum)
  /-- BICS (shifted register) (R209). -/
  | bicsShiftedRegister (sf : Bool) (shift : ShiftType) (rm : RegNum) (imm6 : BitVec 6) (rn rd : RegNum)
  /-- AND (immediate) (R210). -/
  | andImmediate (sf nBit : Bool) (immr imms : BitVec 6) (rn rd : RegNum)
  /-- ORR (immediate) (R211). -/
  | orrImmediate (sf nBit : Bool) (immr imms : BitVec 6) (rn rd : RegNum)
  /-- EOR (immediate) (R212). -/
  | eorImmediate (sf nBit : Bool) (immr imms : BitVec 6) (rn rd : RegNum)
  /-- ANDS (immediate) (R213). -/
  | andsImmediate (sf nBit : Bool) (immr imms : BitVec 6) (rn rd : RegNum)
  /-- MOVN (R214). -/
  | movn (sf : Bool) (hw : BitVec 2) (imm16 : BitVec 16) (rd : RegNum)
  /-- MOVZ (R215). -/
  | movz (sf : Bool) (hw : BitVec 2) (imm16 : BitVec 16) (rd : RegNum)
  /-- MOVK (R216). -/
  | movk (sf : Bool) (hw : BitVec 2) (imm16 : BitVec 16) (rd : RegNum)
  /-- CCMN (register) (R231). -/
  | ccmnRegister (sf : Bool) (rm : RegNum) (cond : Cond) (rn : RegNum) (nzcv : BitVec 4)
  /-- CCMP (register) (R232). -/
  | ccmpRegister (sf : Bool) (rm : RegNum) (cond : Cond) (rn : RegNum) (nzcv : BitVec 4)
  /-- CCMN (immediate) (R233). -/
  | ccmnImmediate (sf : Bool) (imm5 : BitVec 5) (cond : Cond) (rn : RegNum) (nzcv : BitVec 4)
  /-- CCMP (immediate) (R234). -/
  | ccmpImmediate (sf : Bool) (imm5 : BitVec 5) (cond : Cond) (rn : RegNum) (nzcv : BitVec 4)
  /-- CSEL (R236). -/
  | csel (sf : Bool) (rm : RegNum) (cond : Cond) (rn rd : RegNum)
  /-- CSINC (R237). -/
  | csinc (sf : Bool) (rm : RegNum) (cond : Cond) (rn rd : RegNum)
  /-- CSINV (R238). -/
  | csinv (sf : Bool) (rm : RegNum) (cond : Cond) (rn rd : RegNum)
  /-- CSNEG (R239). -/
  | csneg (sf : Bool) (rm : RegNum) (cond : Cond) (rn rd : RegNum)
  /-- SBFM (R251). -/
  | sbfm (sf nBit : Bool) (immr imms : BitVec 6) (rn rd : RegNum)
  /-- BFM (R252). -/
  | bfm (sf nBit : Bool) (immr imms : BitVec 6) (rn rd : RegNum)
  /-- UBFM (R253). -/
  | ubfm (sf nBit : Bool) (immr imms : BitVec 6) (rn rd : RegNum)
  /-- EXTR (R255). -/
  | extr (sf nBit : Bool) (rm : RegNum) (imms : BitVec 6) (rn rd : RegNum)
  /-- RBIT (R271). -/
  | rbit (sf : Bool) (rn rd : RegNum)
  /-- REV16 (R272). -/
  | rev16 (sf : Bool) (rn rd : RegNum)
  /-- REV (32-bit) (R273). -/
  | revW (rn rd : RegNum)
  /-- REV32 (R274). -/
  | rev32 (rn rd : RegNum)
  /-- REV (64-bit) (R275). -/
  | revX (rn rd : RegNum)
  /-- CLZ (R276). -/
  | clz (sf : Bool) (rn rd : RegNum)
  /-- CLS (R277). -/
  | cls (sf : Bool) (rn rd : RegNum)
  /-- UDIV (R281). -/
  | udiv (sf : Bool) (rm rn rd : RegNum)
  /-- SDIV (R282). -/
  | sdiv (sf : Bool) (rm rn rd : RegNum)
  /-- LSLV (R284). -/
  | lslv (sf : Bool) (rm rn rd : RegNum)
  /-- LSRV (R285). -/
  | lsrv (sf : Bool) (rm rn rd : RegNum)
  /-- ASRV (R286). -/
  | asrv (sf : Bool) (rm rn rd : RegNum)
  /-- RORV (R287). -/
  | rorv (sf : Bool) (rm rn rd : RegNum)
  /-- CRC32B (R289). -/
  | crc32b (rm rn rd : RegNum)
  /-- CRC32H (R290). -/
  | crc32h (rm rn rd : RegNum)
  /-- CRC32W (R291). -/
  | crc32w (rm rn rd : RegNum)
  /-- CRC32X (R292). -/
  | crc32x (rm rn rd : RegNum)
  /-- CRC32CB (R293). -/
  | crc32cb (rm rn rd : RegNum)
  /-- CRC32CH (R294). -/
  | crc32ch (rm rn rd : RegNum)
  /-- CRC32CW (R295). -/
  | crc32cw (rm rn rd : RegNum)
  /-- CRC32CX (R296). -/
  | crc32cx (rm rn rd : RegNum)
  /-- MADD (R301). -/
  | madd (sf : Bool) (rm ra rn rd : RegNum)
  /-- MSUB (R302). -/
  | msub (sf : Bool) (rm ra rn rd : RegNum)
  /-- SMADDL (R303). -/
  | smaddl (rm ra rn rd : RegNum)
  /-- SMSUBL (R304). -/
  | smsubl (rm ra rn rd : RegNum)
  /-- SMULH (R305). -/
  | smulh (rm ra rn rd : RegNum)
  /-- UMADDL (R306). -/
  | umaddl (rm ra rn rd : RegNum)
  /-- UMSUBL (R307). -/
  | umsubl (rm ra rn rd : RegNum)
  /-- UMULH (R308). -/
  | umulh (rm ra rn rd : RegNum)
  /-- ADR (R323). -/
  | adr (immlo : BitVec 2) (immhi : BitVec 19) (rd : RegNum)
  /-- ADRP (R324). -/
  | adrp (immlo : BitVec 2) (immhi : BitVec 19) (rd : RegNum)
  /-- B (R330). -/
  | b (imm26 : BitVec 26)
  /-- BL (R331). -/
  | bl (imm26 : BitVec 26)
  /-- B.cond (R326). -/
  | bCond (imm19 : BitVec 19) (cond : Cond)
  /-- CBZ (R327). -/
  | cbz (sf : Bool) (imm19 : BitVec 19) (rt : RegNum)
  /-- CBNZ (R328). -/
  | cbnz (sf : Bool) (imm19 : BitVec 19) (rt : RegNum)
  /-- TBZ (R329). -/
  | tbz (b5 : Bool) (b40 : BitVec 5) (imm14 : BitVec 14) (rt : RegNum)
  /-- TBNZ (R332). -/
  | tbnz (b5 : Bool) (b40 : BitVec 5) (imm14 : BitVec 14) (rt : RegNum)
  /-- BR (R334). -/
  | br (rn : RegNum)
  /-- BLR (R335). -/
  | blr (rn : RegNum)
  /-- RET (R336). -/
  | ret (rn : RegNum)
  /-- MRS Xt, NZCV (R380). -/
  | mrsNzcv (rt : RegNum)
  /-- MSR NZCV, Xt (R381). -/
  | msrNzcv (rt : RegNum)
  /-- MRS Xt, FPCR (R382). -/
  | mrsFpcr (rt : RegNum)
  /-- MSR FPCR, Xt (R382). -/
  | msrFpcr (rt : RegNum)
  /-- MRS Xt, RNDR (R383). -/
  | mrsRndr (rt : RegNum)
  /-- MRS Xt, RNDRRS (R383). -/
  | mrsRndrrs (rt : RegNum)
  /-- NOP (R385). -/
  | nop
  /-- ESB (R385). -/
  | esb
  /-- CSDB (R385). -/
  | csdb
  /-- BTI (R385). -/
  | bti
  /-- BTI c (R385). -/
  | btiC
  /-- BTI j (R385). -/
  | btiJ
  /-- BTI jc (R385). -/
  | btiJc
  /-- HINT #imm7 (R385). -/
  | hint (imm7 : BitVec 7)
  /-- CLREX (R387). -/
  | clrex (crm : BitVec 4)
  /-- DSB (R386). -/
  | dsb (crm : BitVec 4)
  /-- DMB (R386). -/
  | dmb (crm : BitVec 4)
  /-- ISB (R386). -/
  | isb (crm : BitVec 4)
  /-- SYS (R389). -/
  | sys (op1 : BitVec 3) (crn crm : BitVec 4) (op2 : BitVec 3) (rt : RegNum)
  /-- HLT (R392). -/
  | hlt (imm16 : BitVec 16)
  /-- UDF (R390). -/
  | udf (imm16 : BitVec 16)
  /-- STRB (unsigned offset) (R358). -/
  | strbUnsignedOffset (imm12 : BitVec 12) (rn rt : RegNum)
  /-- STURB (unscaled) (R358). -/
  | sturb (imm9 : BitVec 9) (rn rt : RegNum)
  /-- STRB (post-index) (R358). -/
  | strbPostIndex (imm9 : BitVec 9) (rn rt : RegNum)
  /-- STRB (pre-index) (R358). -/
  | strbPreIndex (imm9 : BitVec 9) (rn rt : RegNum)
  /-- STRB (register offset) (R358). -/
  | strbRegisterOffset (rm : RegNum) (ext : ExtendType) (scaled : Bool) (rn rt : RegNum)
  /-- LDRB (unsigned offset) (R358). -/
  | ldrbUnsignedOffset (imm12 : BitVec 12) (rn rt : RegNum)
  /-- LDURB (unscaled) (R358). -/
  | ldurb (imm9 : BitVec 9) (rn rt : RegNum)
  /-- LDRB (post-index) (R358). -/
  | ldrbPostIndex (imm9 : BitVec 9) (rn rt : RegNum)
  /-- LDRB (pre-index) (R358). -/
  | ldrbPreIndex (imm9 : BitVec 9) (rn rt : RegNum)
  /-- LDRB (register offset) (R358). -/
  | ldrbRegisterOffset (rm : RegNum) (ext : ExtendType) (scaled : Bool) (rn rt : RegNum)
  /-- STRH (unsigned offset) (R358). -/
  | strhUnsignedOffset (imm12 : BitVec 12) (rn rt : RegNum)
  /-- STURH (unscaled) (R358). -/
  | sturh (imm9 : BitVec 9) (rn rt : RegNum)
  /-- STRH (post-index) (R358). -/
  | strhPostIndex (imm9 : BitVec 9) (rn rt : RegNum)
  /-- STRH (pre-index) (R358). -/
  | strhPreIndex (imm9 : BitVec 9) (rn rt : RegNum)
  /-- STRH (register offset) (R358). -/
  | strhRegisterOffset (rm : RegNum) (ext : ExtendType) (scaled : Bool) (rn rt : RegNum)
  /-- LDRH (unsigned offset) (R358). -/
  | ldrhUnsignedOffset (imm12 : BitVec 12) (rn rt : RegNum)
  /-- LDURH (unscaled) (R358). -/
  | ldurh (imm9 : BitVec 9) (rn rt : RegNum)
  /-- LDRH (post-index) (R358). -/
  | ldrhPostIndex (imm9 : BitVec 9) (rn rt : RegNum)
  /-- LDRH (pre-index) (R358). -/
  | ldrhPreIndex (imm9 : BitVec 9) (rn rt : RegNum)
  /-- LDRH (register offset) (R358). -/
  | ldrhRegisterOffset (rm : RegNum) (ext : ExtendType) (scaled : Bool) (rn rt : RegNum)
  /-- STR Wt (unsigned offset) (R358). -/
  | strWUnsignedOffset (imm12 : BitVec 12) (rn rt : RegNum)
  /-- STUR Wt (unscaled) (R358). -/
  | sturW (imm9 : BitVec 9) (rn rt : RegNum)
  /-- STR Wt (post-index) (R358). -/
  | strWPostIndex (imm9 : BitVec 9) (rn rt : RegNum)
  /-- STR Wt (pre-index) (R358). -/
  | strWPreIndex (imm9 : BitVec 9) (rn rt : RegNum)
  /-- STR Wt (register offset) (R358). -/
  | strWRegisterOffset (rm : RegNum) (ext : ExtendType) (scaled : Bool) (rn rt : RegNum)
  /-- LDR Wt (unsigned offset) (R358). -/
  | ldrWUnsignedOffset (imm12 : BitVec 12) (rn rt : RegNum)
  /-- LDUR Wt (unscaled) (R358). -/
  | ldurW (imm9 : BitVec 9) (rn rt : RegNum)
  /-- LDR Wt (post-index) (R358). -/
  | ldrWPostIndex (imm9 : BitVec 9) (rn rt : RegNum)
  /-- LDR Wt (pre-index) (R358). -/
  | ldrWPreIndex (imm9 : BitVec 9) (rn rt : RegNum)
  /-- LDR Wt (register offset) (R358). -/
  | ldrWRegisterOffset (rm : RegNum) (ext : ExtendType) (scaled : Bool) (rn rt : RegNum)
  /-- STR Xt (unsigned offset) (R358). -/
  | strXUnsignedOffset (imm12 : BitVec 12) (rn rt : RegNum)
  /-- STUR Xt (unscaled) (R358). -/
  | sturX (imm9 : BitVec 9) (rn rt : RegNum)
  /-- STR Xt (post-index) (R358). -/
  | strXPostIndex (imm9 : BitVec 9) (rn rt : RegNum)
  /-- STR Xt (pre-index) (R358). -/
  | strXPreIndex (imm9 : BitVec 9) (rn rt : RegNum)
  /-- STR Xt (register offset) (R358). -/
  | strXRegisterOffset (rm : RegNum) (ext : ExtendType) (scaled : Bool) (rn rt : RegNum)
  /-- LDR Xt (unsigned offset) (R358). -/
  | ldrXUnsignedOffset (imm12 : BitVec 12) (rn rt : RegNum)
  /-- LDUR Xt (unscaled) (R358). -/
  | ldurX (imm9 : BitVec 9) (rn rt : RegNum)
  /-- LDR Xt (post-index) (R358). -/
  | ldrXPostIndex (imm9 : BitVec 9) (rn rt : RegNum)
  /-- LDR Xt (pre-index) (R358). -/
  | ldrXPreIndex (imm9 : BitVec 9) (rn rt : RegNum)
  /-- LDR Xt (register offset) (R358). -/
  | ldrXRegisterOffset (rm : RegNum) (ext : ExtendType) (scaled : Bool) (rn rt : RegNum)
  /-- LDRSB Xt (unsigned offset) (R358). -/
  | ldrsbXUnsignedOffset (imm12 : BitVec 12) (rn rt : RegNum)
  /-- LDURSB Xt (unscaled) (R358). -/
  | ldursbX (imm9 : BitVec 9) (rn rt : RegNum)
  /-- LDRSB Xt (post-index) (R358). -/
  | ldrsbXPostIndex (imm9 : BitVec 9) (rn rt : RegNum)
  /-- LDRSB Xt (pre-index) (R358). -/
  | ldrsbXPreIndex (imm9 : BitVec 9) (rn rt : RegNum)
  /-- LDRSB Xt (register offset) (R358). -/
  | ldrsbXRegisterOffset (rm : RegNum) (ext : ExtendType) (scaled : Bool) (rn rt : RegNum)
  /-- LDRSB Wt (unsigned offset) (R358). -/
  | ldrsbWUnsignedOffset (imm12 : BitVec 12) (rn rt : RegNum)
  /-- LDURSB Wt (unscaled) (R358). -/
  | ldursbW (imm9 : BitVec 9) (rn rt : RegNum)
  /-- LDRSB Wt (post-index) (R358). -/
  | ldrsbWPostIndex (imm9 : BitVec 9) (rn rt : RegNum)
  /-- LDRSB Wt (pre-index) (R358). -/
  | ldrsbWPreIndex (imm9 : BitVec 9) (rn rt : RegNum)
  /-- LDRSB Wt (register offset) (R358). -/
  | ldrsbWRegisterOffset (rm : RegNum) (ext : ExtendType) (scaled : Bool) (rn rt : RegNum)
  /-- LDRSH Xt (unsigned offset) (R358). -/
  | ldrshXUnsignedOffset (imm12 : BitVec 12) (rn rt : RegNum)
  /-- LDURSH Xt (unscaled) (R358). -/
  | ldurshX (imm9 : BitVec 9) (rn rt : RegNum)
  /-- LDRSH Xt (post-index) (R358). -/
  | ldrshXPostIndex (imm9 : BitVec 9) (rn rt : RegNum)
  /-- LDRSH Xt (pre-index) (R358). -/
  | ldrshXPreIndex (imm9 : BitVec 9) (rn rt : RegNum)
  /-- LDRSH Xt (register offset) (R358). -/
  | ldrshXRegisterOffset (rm : RegNum) (ext : ExtendType) (scaled : Bool) (rn rt : RegNum)
  /-- LDRSH Wt (unsigned offset) (R358). -/
  | ldrshWUnsignedOffset (imm12 : BitVec 12) (rn rt : RegNum)
  /-- LDURSH Wt (unscaled) (R358). -/
  | ldurshW (imm9 : BitVec 9) (rn rt : RegNum)
  /-- LDRSH Wt (post-index) (R358). -/
  | ldrshWPostIndex (imm9 : BitVec 9) (rn rt : RegNum)
  /-- LDRSH Wt (pre-index) (R358). -/
  | ldrshWPreIndex (imm9 : BitVec 9) (rn rt : RegNum)
  /-- LDRSH Wt (register offset) (R358). -/
  | ldrshWRegisterOffset (rm : RegNum) (ext : ExtendType) (scaled : Bool) (rn rt : RegNum)
  /-- LDRSW (unsigned offset) (R358). -/
  | ldrswUnsignedOffset (imm12 : BitVec 12) (rn rt : RegNum)
  /-- LDURSW (unscaled) (R358). -/
  | ldursw (imm9 : BitVec 9) (rn rt : RegNum)
  /-- LDRSW (post-index) (R358). -/
  | ldrswPostIndex (imm9 : BitVec 9) (rn rt : RegNum)
  /-- LDRSW (pre-index) (R358). -/
  | ldrswPreIndex (imm9 : BitVec 9) (rn rt : RegNum)
  /-- LDRSW (register offset) (R358). -/
  | ldrswRegisterOffset (rm : RegNum) (ext : ExtendType) (scaled : Bool) (rn rt : RegNum)
  /-- STP Wt (offset) (R359). -/
  | stpWOffset (imm7 : BitVec 7) (rt2 rn rt : RegNum)
  /-- STP Wt (post-index) (R359). -/
  | stpWPostIndex (imm7 : BitVec 7) (rt2 rn rt : RegNum)
  /-- STP Wt (pre-index) (R359). -/
  | stpWPreIndex (imm7 : BitVec 7) (rt2 rn rt : RegNum)
  /-- LDP Wt (offset) (R359). -/
  | ldpWOffset (imm7 : BitVec 7) (rt2 rn rt : RegNum)
  /-- LDP Wt (post-index) (R359). -/
  | ldpWPostIndex (imm7 : BitVec 7) (rt2 rn rt : RegNum)
  /-- LDP Wt (pre-index) (R359). -/
  | ldpWPreIndex (imm7 : BitVec 7) (rt2 rn rt : RegNum)
  /-- STP Xt (offset) (R359). -/
  | stpXOffset (imm7 : BitVec 7) (rt2 rn rt : RegNum)
  /-- STP Xt (post-index) (R359). -/
  | stpXPostIndex (imm7 : BitVec 7) (rt2 rn rt : RegNum)
  /-- STP Xt (pre-index) (R359). -/
  | stpXPreIndex (imm7 : BitVec 7) (rt2 rn rt : RegNum)
  /-- LDP Xt (offset) (R359). -/
  | ldpXOffset (imm7 : BitVec 7) (rt2 rn rt : RegNum)
  /-- LDP Xt (post-index) (R359). -/
  | ldpXPostIndex (imm7 : BitVec 7) (rt2 rn rt : RegNum)
  /-- LDP Xt (pre-index) (R359). -/
  | ldpXPreIndex (imm7 : BitVec 7) (rt2 rn rt : RegNum)
  /-- LDR Wt (literal) (R360). -/
  | ldrWLiteral (imm19 : BitVec 19) (rt : RegNum)
  /-- LDR Xt (literal) (R360). -/
  | ldrXLiteral (imm19 : BitVec 19) (rt : RegNum)
  /-- LDRSW (literal) (R360). -/
  | ldrswLiteral (imm19 : BitVec 19) (rt : RegNum)
  /-- LDXR (LDXRB/LDXRH/LDXR by size) (R363). -/
  | ldxr (size : AccessSize) (rn rt : RegNum)
  /-- LDAXR (LDAXRB/LDAXRH/LDAXR by size) (R363). -/
  | ldaxr (size : AccessSize) (rn rt : RegNum)
  /-- STXR (STXRB/STXRH/STXR by size) (R364). -/
  | stxr (size : AccessSize) (rs rn rt : RegNum)
  /-- STLXR (STLXRB/STLXRH/STLXR by size) (R364). -/
  | stlxr (size : AccessSize) (rs rn rt : RegNum)
  /-- LDAR (LDARB/LDARH/LDAR by size) (R365). -/
  | ldar (size : AccessSize) (rn rt : RegNum)
  /-- STLR (STLRB/STLRH/STLR by size) (R365). -/
  | stlr (size : AccessSize) (rn rt : RegNum)
  /-- CAS (CAS/CASA/CASL/CASAL, B/H by size) (R366). -/
  | cas (size : AccessSize) (acq : Bool) (rs : RegNum) (rel : Bool) (rn rt : RegNum)
  /-- SWP (SWP/SWPA/SWPL/SWPAL, B/H by size) (R368). -/
  | swp (size : AccessSize) (acq rel : Bool) (rs rn rt : RegNum)
  /-- LDADD (A/L/AL variants, B/H by size) (R369). -/
  | ldadd (size : AccessSize) (acq rel : Bool) (rs rn rt : RegNum)
  /-- LDCLR (A/L/AL variants, B/H by size) (R369). -/
  | ldclr (size : AccessSize) (acq rel : Bool) (rs rn rt : RegNum)
  /-- LDEOR (A/L/AL variants, B/H by size) (R369). -/
  | ldeor (size : AccessSize) (acq rel : Bool) (rs rn rt : RegNum)
  /-- LDSET (A/L/AL variants, B/H by size) (R369). -/
  | ldset (size : AccessSize) (acq rel : Bool) (rs rn rt : RegNum)
  /-- LDSMAX (A/L/AL variants, B/H by size) (R369). -/
  | ldsmax (size : AccessSize) (acq rel : Bool) (rs rn rt : RegNum)
  /-- LDSMIN (A/L/AL variants, B/H by size) (R369). -/
  | ldsmin (size : AccessSize) (acq rel : Bool) (rs rn rt : RegNum)
  /-- LDUMAX (A/L/AL variants, B/H by size) (R369). -/
  | ldumax (size : AccessSize) (acq rel : Bool) (rs rn rt : RegNum)
  /-- LDUMIN (A/L/AL variants, B/H by size) (R369). -/
  | ldumin (size : AccessSize) (acq rel : Bool) (rs rn rt : RegNum)
  /-- LDAPR (LDAPRB/LDAPRH/LDAPR by size) (R370). -/
  | ldapr (size : AccessSize) (rn rt : RegNum)
  deriving DecidableEq, Repr

end Sys2Proof
end

