-- ==== Sys2Proof/Syntax/Native.lean ====
section
/-! DEFINITION. The native commands: the instructions of the neighbouring blocks that the spec
describes and gives no encoding, so that they reach the core only as commands of the decoder
(spec/30_encoding.md R90; spec/47_loadstore.md R372; spec/49_fp_simd_sve.md). The members of a group
that the spec names only as a group are PRESUMED (log 16). -/

namespace Sys2Proof

/-! ## Operand kinds -/

/-- A predicate register number (R39). -/
abbrev PredNum := BitVec 4

/-- The floating-point formats (R400). -/
inductive FpFormat where
  | half
  | single
  | double
  deriving DecidableEq, Repr

/-- Rounding modes: those of FPCR and TieAway (R402). -/
inductive Rounding where
  | tieEven
  | tieAway
  | plusInf
  | minusInf
  | zero
  deriving DecidableEq, Repr

/-- One-operand FP operations (R400, R409). `frint none` rounds in the mode of FPCR. -/
inductive Fp1Op where
  | mov
  | abs
  | neg
  | sqrt
  | frint (mode : Option Rounding)
  deriving DecidableEq, Repr

/-- Two-operand FP operations (R400). -/
inductive Fp2Op where
  | add
  | sub
  | mul
  | nmul
  | div
  | max
  | min
  | maxnm
  | minnm
  deriving DecidableEq, Repr

/-- Fused multiply-add operations (R400). -/
inductive Fp3Op where
  | madd
  | msub
  | nmadd
  | nmsub
  deriving DecidableEq, Repr

/-- Which bits FMOV copies between a general register and an FP register (R407). -/
inductive FmovForm where
  | wh
  | xh
  | ws
  | xd
  | xTop
  deriving DecidableEq, Repr

/-- The shape of a SIMD register operand: one lane, 64 bits of lanes, or 128 (R412). -/
inductive LaneShape where
  | scalar
  | half
  | full
  deriving DecidableEq, Repr

/-- Primary lane arithmetic (R413) of the families R414 names. The members beyond R413's list are PRESUMED
(log 18): `mulh`, the high half of the doubled product; `shlv`, a shift by the signed low byte of the second
lane; `sra`, an accumulating right shift; `sli` and `sri`, inserting shifts. -/
inductive LaneOp where
  | add
  | sub
  | mul
  | mla
  | mls
  | pmul
  | abs
  | neg
  | shl (amount : Nat)
  | shr (amount : Nat)
  | mulh
  | shlv
  | sra (amount : Nat)
  | sli (amount : Nat)
  | sri (amount : Nat)
  deriving DecidableEq, Repr

/-- The last step of lane post-processing (R413). -/
inductive Saturation where
  | none
  | signed
  | unsigned
  deriving DecidableEq, Repr

/-- Lane comparisons (R413, R427): `ge`, `gt`, `le`, `lt` are signed, `hs`, `hi`, `ls`, `lo` unsigned. -/
inductive LaneCond where
  | eq
  | ne
  | ge
  | gt
  | le
  | lt
  | hs
  | hi
  | ls
  | lo
  deriving DecidableEq, Repr

/-- Permutes of two registers (R414; the members are PRESUMED, log 18). -/
inductive PermuteOp where
  | zip1
  | zip2
  | uzp1
  | uzp2
  | trn1
  | trn2
  deriving DecidableEq, Repr

/-- Integer reductions (R418). -/
inductive Reduction where
  | addv
  | smaxv
  | umaxv
  | sminv
  | uminv
  | saddlv
  | uaddlv
  deriving DecidableEq, Repr

/-- FP reductions and pairwise operations (R418, R419). -/
inductive FpReduction where
  | max
  | min
  | maxnm
  | minnm
  deriving DecidableEq, Repr

/-- FP pairwise operations (R419). -/
inductive FpPairwise where
  | add
  | max
  | min
  | maxnm
  | minnm
  deriving DecidableEq, Repr

/-- FP lane comparisons (R413, R414). -/
inductive FpLaneCond where
  | eq
  | ge
  | gt
  | le
  | lt
  deriving DecidableEq, Repr

/-- Sizes of a vector register access: B, H, S, D, Q (R355, R361). -/
inductive VecSize where
  | b
  | h
  | s
  | d
  | q
  deriving DecidableEq, Repr

/-- Addressing modes of a single register access (R351, R352). -/
inductive AddrMode where
  | unsigned (imm12 : BitVec 12)
  | unscaled (imm9 : BitVec 9)
  | post (imm9 : BitVec 9)
  | pre (imm9 : BitVec 9)
  | register (rm : RegNum) (ext : ExtendType) (scaled : Bool)
  deriving DecidableEq, Repr

/-- Addressing modes of a pair access (R359). -/
inductive PairMode where
  | offset (imm7 : BitVec 7)
  | post (imm7 : BitVec 7)
  | pre (imm7 : BitVec 7)
  deriving DecidableEq, Repr

/-- The patterns of PTRUE (R424); `unnamed` is any other pattern number. -/
inductive PredPattern where
  | pow2
  | vl (n : Nat)
  | mul4
  | mul3
  | all
  | unnamed
  deriving DecidableEq, Repr

/-- Predicate logicals (R425). -/
inductive PredLogical where
  | and
  | bic
  | eor
  | nand
  | nor
  | orn
  | orr
  | sel
  deriving DecidableEq, Repr

/-- The conditions of WHILE: LT, LE signed, LO, LS unsigned (R426). -/
inductive WhileCond where
  | lt
  | le
  | lo
  | ls
  deriving DecidableEq, Repr

/-- The second operand of an SVE compare: a vector, a D-sized vector compared with every lane of its
doubleword, or a broadcast immediate (R427). -/
inductive SveOperand where
  | vector (zm : RegNum)
  | wide (zm : RegNum)
  | immediate (imm : Int)
  deriving DecidableEq, Repr

/-- Start or step of INDEX: a general register or a signed immediate (R429). -/
inductive IndexOperand where
  | register (r : RegNum)
  | immediate (imm5 : BitVec 5)
  deriving DecidableEq, Repr

/-- Adjustment by a predicate count: plain, or saturating at W or X size (R432). -/
inductive CountMode where
  | plain
  | signed (sf : Bool)
  | unsigned (sf : Bool)
  deriving DecidableEq, Repr

/-- Adjustment of vector elements by a predicate count: plain, or saturating at the element's size (R432). -/
inductive ElemCountMode where
  | plain
  | signed
  | unsigned
  deriving DecidableEq, Repr

/-- MOVPRFX: a whole register, merging under a predicate, or zeroing under one (R433). -/
inductive MovprfxForm where
  | whole
  | merging (pg : PredNum)
  | zeroing (pg : PredNum)
  deriving DecidableEq, Repr

/-- The pointer-authentication instructions that are no HINT (R310, R337, R371). -/
inductive PacOp where
  | pacia
  | pacib
  | pacda
  | pacdb
  | paciza
  | pacizb
  | pacdza
  | pacdzb
  | autia
  | autib
  | autda
  | autdb
  | autiza
  | autizb
  | autdza
  | autdzb
  | xpaci
  | xpacd
  | pacga
  | braa
  | braaz
  | brab
  | brabz
  | blraa
  | blraaz
  | blrab
  | blrabz
  | retaa
  | retab
  | ldraa
  | ldrab
  deriving DecidableEq, Repr

/-- Real instructions the spec names and gives no rule: system registers other than the four and the
MSR-immediate forms (R384), exception generation and return (R393), the accesses of R374, and the SVE
members of R430; `other` is any further FP, SIMD or SVE command (R435). -/
inductive UnmodelledOp where
  | mrsOther
  | msrOther
  | msrImmediate
  | svc
  | hvc
  | smc
  | brk
  | dcps
  | eret
  | prfm
  | ldnp
  | stnp
  | ldtr
  | sttr
  | ldlar
  | stllr
  | memoryTagging
  | dup
  | insr
  | unpk
  | selMerging
  | other
  deriving DecidableEq, Repr

/-! ## Commands -/

/-- One native command. -/
inductive NativeCmd where
  /-- LDPSW (R359). -/
  | ldpsw (mode : PairMode) (rt2 rn rt : RegNum)
  /-- LDXP, LDAXP (R363). -/
  | ldxp (sf acq : Bool) (rt2 rn rt : RegNum)
  /-- STXP, STLXP (R364). -/
  | stxp (sf rel : Bool) (rs rt2 rn rt : RegNum)
  /-- CASP, CASPA, CASPL, CASPAL (R367). -/
  | casp (sf acq rel : Bool) (rs rn rt : RegNum)
  /-- LDAPUR (R370). -/
  | ldapur (size : AccessSize) (imm9 : BitVec 9) (rn rt : RegNum)
  /-- STLUR (R370). -/
  | stlur (size : AccessSize) (imm9 : BitVec 9) (rn rt : RegNum)
  /-- LDR of a vector register (R361). -/
  | ldrVector (size : VecSize) (mode : AddrMode) (rn vt : RegNum)
  /-- STR of a vector register (R361). -/
  | strVector (size : VecSize) (mode : AddrMode) (rn vt : RegNum)
  /-- LDP of S, D or Q registers (R359, R361). -/
  | ldpVector (size : VecSize) (mode : PairMode) (vt2 rn vt : RegNum)
  /-- STP of S, D or Q registers (R359, R361). -/
  | stpVector (size : VecSize) (mode : PairMode) (vt2 rn vt : RegNum)
  /-- LDR (literal) of an S, D or Q register (R360, R361). -/
  | ldrVectorLiteral (size : VecSize) (imm19 : BitVec 19) (vt : RegNum)
  /-- Pointer authentication (R310, R337, R371); `fields` are its operands as the decoder numbers them, which
  no meaning reads. -/
  | pac (op : PacOp) (fields : Nat)
  /-- A real instruction without a rule (R374, R384, R393, R430, R435); `fields` as in `pac`. -/
  | unmodelled (op : UnmodelledOp) (fields : Nat)
  /-- FMOV (immediate): the value of the FP immediate, already assembled (R91, R400). -/
  | fmovImmediate (f : FpFormat) (imm : BitVec 64) (vd : RegNum)
  /-- FPDP-1-source (R400, R409). -/
  | fp1 (op : Fp1Op) (f : FpFormat) (vn vd : RegNum)
  /-- FCVT between formats (R400). -/
  | fcvt (source target : FpFormat) (vn vd : RegNum)
  /-- FPDP-2-source (R400). -/
  | fp2 (op : Fp2Op) (f : FpFormat) (vm vn vd : RegNum)
  /-- FPDP-3-source (R400). -/
  | fp3 (op : Fp3Op) (f : FpFormat) (vm va vn vd : RegNum)
  /-- FCMP, FCMPE; no `vm` is the compare with zero (R406). -/
  | fcmp (signalling : Bool) (f : FpFormat) (vm : Option RegNum) (vn : RegNum)
  /-- FCCMP, FCCMPE (R406). -/
  | fccmp (signalling : Bool) (f : FpFormat) (vm : RegNum) (cond : Cond) (vn : RegNum) (nzcv : BitVec 4)
  /-- FCSEL (R406). -/
  | fcsel (f : FpFormat) (vm : RegNum) (cond : Cond) (vn vd : RegNum)
  /-- FCVT{N,A,P,M,Z}{S,U}, and with `fbits` the fixed-point forms (R402, R407, R408). -/
  | fpToInt (f : FpFormat) (sf signed : Bool) (mode : Rounding) (fbits : Nat) (vn rd : RegNum)
  /-- SCVTF, UCVTF, and with `fbits` the fixed-point forms (R408). -/
  | intToFp (f : FpFormat) (sf signed : Bool) (fbits : Nat) (rn vd : RegNum)
  /-- FJCVTZS (R407). -/
  | fjcvtzs (vn rd : RegNum)
  /-- FMOV to a general register (R407). -/
  | fmovToGeneral (form : FmovForm) (vn rd : RegNum)
  /-- FMOV from a general register (R407). -/
  | fmovFromGeneral (form : FmovForm) (rn vd : RegNum)
  /-- A lane kernel with its modifiers (R413). -/
  | simdArith (op : LaneOp) (size : AccessSize) (shape : LaneShape) (signed rounding halving : Bool)
      (sat : Saturation) (vm vn vd : RegNum)
  /-- A lane compare; no `vm` is the compare with zero (R413). -/
  | simdCompare (cond : LaneCond) (size : AccessSize) (shape : LaneShape) (vm : Option RegNum)
      (vn vd : RegNum)
  /-- A widening kernel from lanes of `size` to lanes of twice that, `upper` the "2" form (R414). -/
  | simdWiden (op : LaneOp) (size : AccessSize) (signed upper : Bool) (vm vn vd : RegNum)
  /-- A narrowing shift from lanes of twice `size`, `upper` the "2" form (R414). -/
  | simdNarrow (size : AccessSize) (shift : Nat) (signed rounding : Bool) (sat : Saturation)
      (upper : Bool) (vn vd : RegNum)
  /-- An integer reduction (R418). -/
  | simdReduce (op : Reduction) (size : AccessSize) (shape : LaneShape) (vn vd : RegNum)
  /-- TBL, TBX over `count + 1` registers (R420). -/
  | simdTable (extension : Bool) (count : BitVec 2) (shape : LaneShape) (vm vn vd : RegNum)
  /-- ZIP, UZP, TRN (R414). -/
  | simdPermute (op : PermuteOp) (size : AccessSize) (shape : LaneShape) (vm vn vd : RegNum)
  /-- EXT from byte `imm` on (R414). -/
  | simdExt (shape : LaneShape) (imm : BitVec 4) (vm vn vd : RegNum)
  /-- REV16, REV32, REV64: lanes of `size` reversed in blocks of `block` bits (R414). -/
  | simdRev (block : Nat) (size : AccessSize) (shape : LaneShape) (vn vd : RegNum)
  /-- FP lanes, one source (R414). -/
  | simdFp1 (op : Fp1Op) (f : FpFormat) (shape : LaneShape) (vn vd : RegNum)
  /-- FP lanes, two sources (R414). -/
  | simdFp2 (op : Fp2Op) (f : FpFormat) (shape : LaneShape) (vm vn vd : RegNum)
  /-- FP lane compares; no `vm` is the compare with zero (R413, R414). -/
  | simdFpCompare (cond : FpLaneCond) (f : FpFormat) (shape : LaneShape) (vm : Option RegNum)
      (vn vd : RegNum)
  /-- FMLA, FMLS (R414). -/
  | simdFmla (sub : Bool) (f : FpFormat) (shape : LaneShape) (vm vn vd : RegNum)
  /-- FCVTL, FCVTL2 to lanes of format `f` (R414). -/
  | simdFcvtl (f : FpFormat) (upper : Bool) (vn vd : RegNum)
  /-- FCVTN, FCVTN2 from lanes of format `f` (R414). -/
  | simdFcvtn (f : FpFormat) (upper : Bool) (vn vd : RegNum)
  /-- FP reductions (R418). -/
  | simdFpReduce (op : FpReduction) (f : FpFormat) (shape : LaneShape) (vn vd : RegNum)
  /-- FP pairwise operations (R419). -/
  | simdFpPairwise (op : FpPairwise) (f : FpFormat) (shape : LaneShape) (vm vn vd : RegNum)
  /-- Lane conversions to integer or fixed point (R421). -/
  | simdFpToInt (f : FpFormat) (shape : LaneShape) (signed : Bool) (mode : Rounding) (fbits : Nat)
      (vn vd : RegNum)
  /-- Lane conversions from integer or fixed point (R421). -/
  | simdIntToFp (f : FpFormat) (shape : LaneShape) (signed : Bool) (fbits : Nat) (vn vd : RegNum)
  /-- PTEST (R423). -/
  | ptest (pg pn : PredNum)
  /-- PTRUE, PTRUES (R424). -/
  | ptrue (setFlags : Bool) (pattern : PredPattern) (size : AccessSize) (pd : PredNum)
  /-- PFALSE (R424). -/
  | pfalse (pd : PredNum)
  /-- Predicate logicals (R425). -/
  | predLogical (op : PredLogical) (setFlags : Bool) (pg pm pn pd : PredNum)
  /-- WHILELT, WHILELE, WHILELO, WHILELS (R426). -/
  | whileLanes (cond : WhileCond) (sf : Bool) (size : AccessSize) (rm rn : RegNum) (pd : PredNum)
  /-- Vector compares into a predicate (R427). -/
  | sveCompare (cond : LaneCond) (size : AccessSize) (operand : SveOperand) (pg : PredNum) (zn : RegNum)
      (pd : PredNum)
  /-- CTERMEQ, CTERMNE (R428). -/
  | cterm (ne sf : Bool) (rm rn : RegNum)
  /-- INDEX (R429). -/
  | index (size : AccessSize) (start step : IndexOperand) (zd : RegNum)
  /-- INCP, DECP, SQINCP, UQINCP, SQDECP, UQDECP, scalar (R432). -/
  | incDec (dec : Bool) (mode : CountMode) (size : AccessSize) (pm : PredNum) (rd : RegNum)
  /-- INCP, DECP, SQINCP, UQINCP, SQDECP, UQDECP of every element of a vector (R432). -/
  | incDecVector (dec : Bool) (mode : ElemCountMode) (size : AccessSize) (pm : PredNum) (zd : RegNum)
  /-- MOVPRFX (R433). -/
  | movprfx (form : MovprfxForm) (size : AccessSize) (zn zd : RegNum)
  /-- LDR of a Z register, `offset` already assembled (R434). -/
  | ldrZ (offset : BitVec 64) (rn zt : RegNum)
  /-- STR of a Z register (R434). -/
  | strZ (offset : BitVec 64) (rn zt : RegNum)
  /-- LDR of a P register (R434). -/
  | ldrP (offset : BitVec 64) (rn : RegNum) (pt : PredNum)
  /-- STR of a P register (R434). -/
  | strP (offset : BitVec 64) (rn : RegNum) (pt : PredNum)
  deriving DecidableEq, Repr

end Sys2Proof
end

