-- ==== Sys2Proof/WellFormed.lean ====
section
/-! DEFINITION. Which instructions are well formed: the "unallocated if" conditions of the formats
(spec/30_encoding.md R96 to R102, spec/47_loadstore.md R352), and the hint numbers that have a
constructor of their own (R125). Every other field takes every value. After it, the same of native commands. -/

namespace Sys2Proof

/-- A shift amount or bit position of a 32-bit form is below 32 (R98 to R101). -/
def amountInRange (sf : Bool) (imm6 : BitVec 6) : Bool := sf || decide (imm6.toNat < 32)

/-- The extend options of a register offset: UXTW, UXTX (LSL), SXTW, SXTX (R352). -/
def offsetExtend : ExtendType → Bool
  | .uxtw | .uxtx | .sxtw | .sxtx => true
  | .uxtb | .uxth | .sxtb | .sxth => false

/-- The hints that are rows, and constructors, of their own: NOP, ESB, CSDB and the BTIs (R125). -/
def namedHint (imm7 : BitVec 7) : Bool :=
  imm7 == 0#7 || imm7 == 16#7 || imm7 == 20#7 || imm7 == 32#7 || imm7 == 34#7 || imm7 == 36#7 ||
    imm7 == 38#7

/-- The fields of an instruction meet the constraints of its format (R91). -/
def Instr.wellFormed : Instr → Bool
  | .addImmediate _ _ _ _ _ => true
  | .addsImmediate _ _ _ _ _ => true
  | .subImmediate _ _ _ _ _ => true
  | .subsImmediate _ _ _ _ _ => true
  | .addShiftedRegister sf shift _ imm6 _ _ => decide (shift ≠ .ror) && amountInRange sf imm6
  | .addsShiftedRegister sf shift _ imm6 _ _ => decide (shift ≠ .ror) && amountInRange sf imm6
  | .subShiftedRegister sf shift _ imm6 _ _ => decide (shift ≠ .ror) && amountInRange sf imm6
  | .subsShiftedRegister sf shift _ imm6 _ _ => decide (shift ≠ .ror) && amountInRange sf imm6
  | .addExtendedRegister _ _ _ imm3 _ _ => decide (imm3.toNat ≤ 4)
  | .addsExtendedRegister _ _ _ imm3 _ _ => decide (imm3.toNat ≤ 4)
  | .subExtendedRegister _ _ _ imm3 _ _ => decide (imm3.toNat ≤ 4)
  | .subsExtendedRegister _ _ _ imm3 _ _ => decide (imm3.toNat ≤ 4)
  | .adc _ _ _ _ => true
  | .adcs _ _ _ _ => true
  | .sbc _ _ _ _ => true
  | .sbcs _ _ _ _ => true
  | .andShiftedRegister sf _ _ imm6 _ _ => amountInRange sf imm6
  | .bicShiftedRegister sf _ _ imm6 _ _ => amountInRange sf imm6
  | .orrShiftedRegister sf _ _ imm6 _ _ => amountInRange sf imm6
  | .ornShiftedRegister sf _ _ imm6 _ _ => amountInRange sf imm6
  | .eorShiftedRegister sf _ _ imm6 _ _ => amountInRange sf imm6
  | .eonShiftedRegister sf _ _ imm6 _ _ => amountInRange sf imm6
  | .andsShiftedRegister sf _ _ imm6 _ _ => amountInRange sf imm6
  | .bicsShiftedRegister sf _ _ imm6 _ _ => amountInRange sf imm6
  | .andImmediate sf nBit immr imms _ _ => (Machine.decodeBitMasks (width sf) nBit imms immr).isSome
  | .orrImmediate sf nBit immr imms _ _ => (Machine.decodeBitMasks (width sf) nBit imms immr).isSome
  | .eorImmediate sf nBit immr imms _ _ => (Machine.decodeBitMasks (width sf) nBit imms immr).isSome
  | .andsImmediate sf nBit immr imms _ _ => (Machine.decodeBitMasks (width sf) nBit imms immr).isSome
  | .movn sf hw _ _ => sf || decide (hw.toNat < 2)
  | .movz sf hw _ _ => sf || decide (hw.toNat < 2)
  | .movk sf hw _ _ => sf || decide (hw.toNat < 2)
  | .ccmnRegister _ _ _ _ _ => true
  | .ccmpRegister _ _ _ _ _ => true
  | .ccmnImmediate _ _ _ _ _ => true
  | .ccmpImmediate _ _ _ _ _ => true
  | .csel _ _ _ _ _ => true
  | .csinc _ _ _ _ _ => true
  | .csinv _ _ _ _ _ => true
  | .csneg _ _ _ _ _ => true
  | .sbfm sf nBit immr imms _ _ => decide (nBit = sf) && amountInRange sf immr && amountInRange sf imms
  | .bfm sf nBit immr imms _ _ => decide (nBit = sf) && amountInRange sf immr && amountInRange sf imms
  | .ubfm sf nBit immr imms _ _ => decide (nBit = sf) && amountInRange sf immr && amountInRange sf imms
  | .extr sf nBit _ imms _ _ => decide (nBit = sf) && amountInRange sf imms
  | .rbit _ _ _ => true
  | .rev16 _ _ _ => true
  | .revW _ _ => true
  | .rev32 _ _ => true
  | .revX _ _ => true
  | .clz _ _ _ => true
  | .cls _ _ _ => true
  | .udiv _ _ _ _ => true
  | .sdiv _ _ _ _ => true
  | .lslv _ _ _ _ => true
  | .lsrv _ _ _ _ => true
  | .asrv _ _ _ _ => true
  | .rorv _ _ _ _ => true
  | .crc32b _ _ _ => true
  | .crc32h _ _ _ => true
  | .crc32w _ _ _ => true
  | .crc32x _ _ _ => true
  | .crc32cb _ _ _ => true
  | .crc32ch _ _ _ => true
  | .crc32cw _ _ _ => true
  | .crc32cx _ _ _ => true
  | .madd _ _ _ _ _ => true
  | .msub _ _ _ _ _ => true
  | .smaddl _ _ _ _ => true
  | .smsubl _ _ _ _ => true
  | .smulh _ _ _ _ => true
  | .umaddl _ _ _ _ => true
  | .umsubl _ _ _ _ => true
  | .umulh _ _ _ _ => true
  | .adr _ _ _ => true
  | .adrp _ _ _ => true
  | .b _ => true
  | .bl _ => true
  | .bCond _ _ => true
  | .cbz _ _ _ => true
  | .cbnz _ _ _ => true
  | .tbz _ _ _ _ => true
  | .tbnz _ _ _ _ => true
  | .br _ => true
  | .blr _ => true
  | .ret _ => true
  | .mrsNzcv _ => true
  | .msrNzcv _ => true
  | .mrsFpcr _ => true
  | .msrFpcr _ => true
  | .mrsRndr _ => true
  | .mrsRndrrs _ => true
  | .nop => true
  | .esb => true
  | .csdb => true
  | .bti => true
  | .btiC => true
  | .btiJ => true
  | .btiJc => true
  | .hint imm7 => !namedHint imm7
  | .clrex _ => true
  | .dsb _ => true
  | .dmb _ => true
  | .isb _ => true
  | .sys _ _ _ _ _ => true
  | .hlt _ => true
  | .udf _ => true
  | .strbUnsignedOffset _ _ _ => true
  | .sturb _ _ _ => true
  | .strbPostIndex _ _ _ => true
  | .strbPreIndex _ _ _ => true
  | .strbRegisterOffset _ ext _ _ _ => offsetExtend ext
  | .ldrbUnsignedOffset _ _ _ => true
  | .ldurb _ _ _ => true
  | .ldrbPostIndex _ _ _ => true
  | .ldrbPreIndex _ _ _ => true
  | .ldrbRegisterOffset _ ext _ _ _ => offsetExtend ext
  | .strhUnsignedOffset _ _ _ => true
  | .sturh _ _ _ => true
  | .strhPostIndex _ _ _ => true
  | .strhPreIndex _ _ _ => true
  | .strhRegisterOffset _ ext _ _ _ => offsetExtend ext
  | .ldrhUnsignedOffset _ _ _ => true
  | .ldurh _ _ _ => true
  | .ldrhPostIndex _ _ _ => true
  | .ldrhPreIndex _ _ _ => true
  | .ldrhRegisterOffset _ ext _ _ _ => offsetExtend ext
  | .strWUnsignedOffset _ _ _ => true
  | .sturW _ _ _ => true
  | .strWPostIndex _ _ _ => true
  | .strWPreIndex _ _ _ => true
  | .strWRegisterOffset _ ext _ _ _ => offsetExtend ext
  | .ldrWUnsignedOffset _ _ _ => true
  | .ldurW _ _ _ => true
  | .ldrWPostIndex _ _ _ => true
  | .ldrWPreIndex _ _ _ => true
  | .ldrWRegisterOffset _ ext _ _ _ => offsetExtend ext
  | .strXUnsignedOffset _ _ _ => true
  | .sturX _ _ _ => true
  | .strXPostIndex _ _ _ => true
  | .strXPreIndex _ _ _ => true
  | .strXRegisterOffset _ ext _ _ _ => offsetExtend ext
  | .ldrXUnsignedOffset _ _ _ => true
  | .ldurX _ _ _ => true
  | .ldrXPostIndex _ _ _ => true
  | .ldrXPreIndex _ _ _ => true
  | .ldrXRegisterOffset _ ext _ _ _ => offsetExtend ext
  | .ldrsbXUnsignedOffset _ _ _ => true
  | .ldursbX _ _ _ => true
  | .ldrsbXPostIndex _ _ _ => true
  | .ldrsbXPreIndex _ _ _ => true
  | .ldrsbXRegisterOffset _ ext _ _ _ => offsetExtend ext
  | .ldrsbWUnsignedOffset _ _ _ => true
  | .ldursbW _ _ _ => true
  | .ldrsbWPostIndex _ _ _ => true
  | .ldrsbWPreIndex _ _ _ => true
  | .ldrsbWRegisterOffset _ ext _ _ _ => offsetExtend ext
  | .ldrshXUnsignedOffset _ _ _ => true
  | .ldurshX _ _ _ => true
  | .ldrshXPostIndex _ _ _ => true
  | .ldrshXPreIndex _ _ _ => true
  | .ldrshXRegisterOffset _ ext _ _ _ => offsetExtend ext
  | .ldrshWUnsignedOffset _ _ _ => true
  | .ldurshW _ _ _ => true
  | .ldrshWPostIndex _ _ _ => true
  | .ldrshWPreIndex _ _ _ => true
  | .ldrshWRegisterOffset _ ext _ _ _ => offsetExtend ext
  | .ldrswUnsignedOffset _ _ _ => true
  | .ldursw _ _ _ => true
  | .ldrswPostIndex _ _ _ => true
  | .ldrswPreIndex _ _ _ => true
  | .ldrswRegisterOffset _ ext _ _ _ => offsetExtend ext
  | .stpWOffset _ _ _ _ => true
  | .stpWPostIndex _ _ _ _ => true
  | .stpWPreIndex _ _ _ _ => true
  | .ldpWOffset _ _ _ _ => true
  | .ldpWPostIndex _ _ _ _ => true
  | .ldpWPreIndex _ _ _ _ => true
  | .stpXOffset _ _ _ _ => true
  | .stpXPostIndex _ _ _ _ => true
  | .stpXPreIndex _ _ _ _ => true
  | .ldpXOffset _ _ _ _ => true
  | .ldpXPostIndex _ _ _ _ => true
  | .ldpXPreIndex _ _ _ _ => true
  | .ldrWLiteral _ _ => true
  | .ldrXLiteral _ _ => true
  | .ldrswLiteral _ _ => true
  | .ldxr _ _ _ => true
  | .ldaxr _ _ _ => true
  | .stxr _ _ _ _ => true
  | .stlxr _ _ _ _ => true
  | .ldar _ _ _ => true
  | .stlr _ _ _ => true
  | .cas _ _ _ _ _ _ => true
  | .swp _ _ _ _ _ _ => true
  | .ldadd _ _ _ _ _ _ => true
  | .ldclr _ _ _ _ _ _ => true
  | .ldeor _ _ _ _ _ _ => true
  | .ldset _ _ _ _ _ _ => true
  | .ldsmax _ _ _ _ _ _ => true
  | .ldsmin _ _ _ _ _ _ => true
  | .ldumax _ _ _ _ _ _ => true
  | .ldumin _ _ _ _ _ _ => true
  | .ldapr _ _ _ => true

/-! ## Native commands -/

/-- S, D and Q: the sizes of vector pairs and literals (R359, R360). -/
def VecSize.pairable : VecSize → Bool
  | .b | .h => false
  | .s | .d | .q => true

/-- The constraint on an addressing mode (R352). -/
def AddrMode.wellFormed : AddrMode → Bool
  | .register _ ext _ => offsetExtend ext
  | .unsigned _ | .unscaled _ | .post _ | .pre _ => true

/-- Bits of a lane. -/
def laneBits : AccessSize → Nat
  | .b => 8
  | .h => 16
  | .w => 32
  | .x => 64

/-- A lane shift keeps to the lane (R413). -/
def LaneOp.wellFormed (width : Nat) : LaneOp → Bool
  | .shl amount => decide (amount < width)
  | .shr amount | .sra amount | .sri amount => decide (1 ≤ amount ∧ amount ≤ width)
  | .sli amount => decide (amount < width)
  | .mulh | .shlv => true
  | .add | .sub | .mul | .mla | .mls | .pmul | .abs | .neg => true

/-- The operations that widen: a doubled product, a variable shift and the accumulating and inserting
shifts do not (PRESUMED, log 18). -/
def LaneOp.widens : LaneOp → Bool
  | .mulh | .shlv | .sra _ | .sli _ | .sri _ => false
  | .add | .sub | .mul | .mla | .mls | .pmul | .abs | .neg | .shl _ | .shr _ => true

/-- Lanes of several: a permute of single doublewords would permute nothing. -/
def permutable (size : AccessSize) : LaneShape → Bool
  | .scalar => false
  | .half => decide (size ≠ .x)
  | .full => true

/-- The fields of a native command meet the constraints of its form; most are PRESUMED, like the
forms (log 16). -/
def NativeCmd.wellFormed : NativeCmd → Bool
  | .casp _ _ _ rs _ rt => !rs.getLsbD 0 && !rt.getLsbD 0
  | .ldrVector _ mode _ _ => mode.wellFormed
  | .strVector _ mode _ _ => mode.wellFormed
  | .ldpVector size _ _ _ _ => size.pairable
  | .stpVector size _ _ _ _ => size.pairable
  | .ldrVectorLiteral size _ _ => size.pairable
  | .fcvt source target _ _ => decide (source ≠ target)
  | .fpToInt _ sf _ mode fbits _ _ => decide (fbits ≤ width sf) && (decide (fbits = 0) || decide (mode = .zero))
  | .intToFp _ sf _ fbits _ _ => decide (fbits ≤ width sf)
  | .simdArith op size _ _ _ _ _ _ _ _ => op.wellFormed (laneBits size)
  | .simdWiden op size _ _ _ _ _ => op.wellFormed (laneBits size) && op.widens && decide (size ≠ .x)
  | .simdNarrow size shift _ _ _ _ _ _ => decide (shift ≤ laneBits size) && decide (size ≠ .x)
  | .simdReduce op size shape _ _ =>
    decide (shape ≠ .scalar) && (decide (op ≠ .saddlv ∧ op ≠ .uaddlv) || decide (size ≠ .x))
  | .simdFpToInt _ _ _ mode fbits _ _ => decide (fbits ≤ 64) && (decide (fbits = 0) || decide (mode = .zero))
  | .simdIntToFp _ _ _ fbits _ _ => decide (fbits ≤ 64)
  | .simdPermute _ size shape _ _ _ => permutable size shape
  | .simdExt shape imm _ _ _ => decide (shape ≠ .scalar) && (decide (shape = .full) || !imm.getLsbD 3)
  | .simdRev block size shape _ _ =>
    decide (block = 16 ∨ block = 32 ∨ block = 64) && decide (laneBits size < block) && decide (shape ≠ .scalar)
  | .simdFcvtl f _ _ _ => decide (f ≠ .half)
  | .simdFcvtn f _ _ _ => decide (f ≠ .half)
  | .incDecVector _ _ size _ _ => decide (size ≠ .b)
  | .simdTable _ _ shape _ _ _ => decide (shape ≠ .scalar)
  | .simdFpReduce _ _ shape _ _ => decide (shape ≠ .scalar)
  | .simdFpPairwise _ _ shape _ _ _ => decide (shape ≠ .scalar)
  | .ldpsw _ _ _ _ => true
  | .ldxp _ _ _ _ _ => true
  | .stxp _ _ _ _ _ _ => true
  | .ldapur _ _ _ _ => true
  | .stlur _ _ _ _ => true
  | .pac _ _ => true
  | .unmodelled _ _ => true
  | .fmovImmediate _ _ _ => true
  | .fp1 _ _ _ _ => true
  | .fp2 _ _ _ _ _ => true
  | .fp3 _ _ _ _ _ _ => true
  | .fcmp _ _ _ _ => true
  | .fccmp _ _ _ _ _ _ => true
  | .fcsel _ _ _ _ _ => true
  | .fjcvtzs _ _ => true
  | .fmovToGeneral _ _ _ => true
  | .fmovFromGeneral _ _ _ => true
  | .simdCompare _ _ _ _ _ _ => true
  | .simdFp1 _ _ _ _ _ => true
  | .simdFp2 _ _ _ _ _ _ => true
  | .simdFpCompare _ _ _ _ _ _ => true
  | .simdFmla _ _ _ _ _ _ => true
  | .ptest _ _ => true
  | .ptrue _ _ _ _ => true
  | .pfalse _ => true
  | .predLogical _ _ _ _ _ _ => true
  | .whileLanes _ _ _ _ _ _ => true
  | .sveCompare _ _ _ _ _ _ => true
  | .cterm _ _ _ _ => true
  | .index _ _ _ _ => true
  | .incDec _ _ _ _ _ => true
  | .movprfx _ _ _ _ => true
  | .ldrZ _ _ _ => true
  | .strZ _ _ _ => true
  | .ldrP _ _ _ => true
  | .strP _ _ _ => true

end Sys2Proof
end

