-- ==== Sys2Proof/Decode.lean ====
section
/-! DEFINITION. The decoder, from bytes to an instruction or a named rejection, and after it the
encoder (spec/30_encoding.md R92 to R125, spec/47_loadstore.md R372). Decoding has two stages: the
word is split by its format, then the format's opcode fields select the instruction. -/

namespace Sys2Proof

/-! ## Results -/

/-- Why a word is no instruction of this model (R124, R126). -/
inductive Reject where
  /-- The word selects no instruction (R455). -/
  | unallocated
  /-- A real instruction for which the spec has no rule (R456). -/
  | unimplemented
  /-- A pointer-authentication instruction, which the spec refuses by name (R126, R310, R337, R371). -/
  | pointerAuthentication (name : String)
  deriving DecidableEq, Repr

/-- What the decoder answers for a word. -/
inductive Decoded where
  | instr (i : Instr)
  | rejected (r : Reject)
  deriving DecidableEq, Repr

/-! ## Enumerated fields -/

/-- Bits of a shift type (R100). -/
def shiftBits : ShiftType → BitVec 2
  | .lsl => 0#2
  | .lsr => 1#2
  | .asr => 2#2
  | .ror => 3#2

/-- Shift type of a two-bit field (R100). -/
def shiftOfBits (v : BitVec 2) : ShiftType :=
  match v.toNat with
  | 0 => .lsl
  | 1 => .lsr
  | 2 => .asr
  | _ => .ror

/-- Bits of an extend option (R102). -/
def extendBits : ExtendType → BitVec 3
  | .uxtb => 0#3
  | .uxth => 1#3
  | .uxtw => 2#3
  | .uxtx => 3#3
  | .sxtb => 4#3
  | .sxth => 5#3
  | .sxtw => 6#3
  | .sxtx => 7#3

/-- Extend option of a three-bit field (R102). -/
def extendOfBits (v : BitVec 3) : ExtendType :=
  match v.toNat with
  | 0 => .uxtb
  | 1 => .uxth
  | 2 => .uxtw
  | 3 => .uxtx
  | 4 => .sxtb
  | 5 => .sxth
  | 6 => .sxtw
  | _ => .sxtx

/-- Bits of an access size (R372). -/
def sizeBits : AccessSize → BitVec 2
  | .b => 0#2
  | .h => 1#2
  | .w => 2#2
  | .x => 3#2

/-- Access size of a two-bit field (R372). -/
def sizeOfBits (v : BitVec 2) : AccessSize :=
  match v.toNat with
  | 0 => .b
  | 1 => .h
  | 2 => .w
  | _ => .x

/-- A one-bit field as a `Bool`. -/
def isOne (v : BitVec 1) : Bool := v.getLsbD 0

/-- System register numbers (R118). -/
def sysregNzcv : BitVec 15 := 0x5A10#15
def sysregFpcr : BitVec 15 := 0x5A20#15
def sysregRndr : BitVec 15 := 0x5920#15
def sysregRndrrs : BitVec 15 := 0x5921#15

/-- The single-register load or store that `size` and `opc` select, if any (R372). -/
def ldStKindOf (size opc : BitVec 2) : Option LdStKind :=
  match size.toNat, opc.toNat with
  | 0, 0 => some .strb
  | 0, 1 => some .ldrb
  | 0, 2 => some .ldrsbX
  | 0, 3 => some .ldrsbW
  | 1, 0 => some .strh
  | 1, 1 => some .ldrh
  | 1, 2 => some .ldrshX
  | 1, 3 => some .ldrshW
  | 2, 0 => some .strW
  | 2, 1 => some .ldrW
  | 2, 2 => some .ldrsw
  | 3, 0 => some .strX
  | 3, 1 => some .ldrX
  | _, _ => none

/-! ## From a word to its format -/

/-- Data processing (immediate): R94 to R99. -/
def Format.ofImmediateGroup (w : BitVec 32) : Option Format :=
  if w.extractLsb' 24 5 = 0b10000#5 then
    some (.pcRel (w.extractLsb' 31 1) (w.extractLsb' 29 2) (w.extractLsb' 5 19) (w.extractLsb' 0 5))
  else if w.extractLsb' 23 6 = 0b100010#6 then
    some (.addSubImm (w.extractLsb' 31 1) (w.extractLsb' 30 1) (w.extractLsb' 29 1)
      (w.extractLsb' 22 1) (w.extractLsb' 10 12) (w.extractLsb' 5 5) (w.extractLsb' 0 5))
  else if w.extractLsb' 23 6 = 0b100100#6 then
    some (.logicalImm (w.extractLsb' 31 1) (w.extractLsb' 29 2) (w.extractLsb' 22 1)
      (w.extractLsb' 16 6) (w.extractLsb' 10 6) (w.extractLsb' 5 5) (w.extractLsb' 0 5))
  else if w.extractLsb' 23 6 = 0b100101#6 then
    some (.moveWide (w.extractLsb' 31 1) (w.extractLsb' 29 2) (w.extractLsb' 21 2)
      (w.extractLsb' 5 16) (w.extractLsb' 0 5))
  else if w.extractLsb' 23 6 = 0b100110#6 then
    some (.bitfield (w.extractLsb' 31 1) (w.extractLsb' 29 2) (w.extractLsb' 22 1)
      (w.extractLsb' 16 6) (w.extractLsb' 10 6) (w.extractLsb' 5 5) (w.extractLsb' 0 5))
  else if w.extractLsb' 23 6 = 0b100111#6 then
    some (.extract (w.extractLsb' 31 1) (w.extractLsb' 29 2) (w.extractLsb' 22 1)
      (w.extractLsb' 21 1) (w.extractLsb' 16 5) (w.extractLsb' 10 6) (w.extractLsb' 5 5)
      (w.extractLsb' 0 5))
  else none

/-- Branches, exception generation and system: R109 to R114. -/
def Format.ofBranchGroup (w : BitVec 32) : Option Format :=
  if w.extractLsb' 26 5 = 0b00101#5 then
    some (.branchImm (w.extractLsb' 31 1) (w.extractLsb' 0 26))
  else if w.extractLsb' 25 6 = 0b011010#6 then
    some (.compareBranch (w.extractLsb' 31 1) (w.extractLsb' 24 1) (w.extractLsb' 5 19)
      (w.extractLsb' 0 5))
  else if w.extractLsb' 25 6 = 0b011011#6 then
    some (.testBranch (w.extractLsb' 31 1) (w.extractLsb' 24 1) (w.extractLsb' 19 5)
      (w.extractLsb' 5 14) (w.extractLsb' 0 5))
  else if w.extractLsb' 25 7 = 0b0101010#7 then
    some (.condBranch (w.extractLsb' 24 1) (w.extractLsb' 5 19) (w.extractLsb' 4 1)
      (w.extractLsb' 0 4))
  else if w.extractLsb' 25 7 = 0b1101011#7 then
    some (.branchReg (w.extractLsb' 21 4) (w.extractLsb' 16 5) (w.extractLsb' 10 6)
      (w.extractLsb' 5 5) (w.extractLsb' 0 5))
  else if w.extractLsb' 24 8 = 0b11010100#8 then
    some (.exception (w.extractLsb' 21 3) (w.extractLsb' 5 16) (w.extractLsb' 0 5))
  else if w.extractLsb' 22 10 = 0b1101010100#10 ∧ w.extractLsb' 20 1 = 1#1 then
    some (.sysRegMove (w.extractLsb' 21 1) (w.extractLsb' 5 15) (w.extractLsb' 0 5))
  else if w.extractLsb' 19 13 = 0b1101010100001#13 then
    some (.sysOp (w.extractLsb' 16 3) (w.extractLsb' 12 4) (w.extractLsb' 8 4) (w.extractLsb' 5 3)
      (w.extractLsb' 0 5))
  else if w.extractLsb' 12 20 = 0xD5032#20 ∧ w.extractLsb' 0 5 = 0b11111#5 then
    some (.hint (w.extractLsb' 5 7))
  else if w.extractLsb' 12 20 = 0xD5033#20 ∧ w.extractLsb' 0 5 = 0b11111#5 then
    some (.barrier (w.extractLsb' 8 4) (w.extractLsb' 5 3))
  else none

/-- Data processing (register): R100 to R108. -/
def Format.ofRegisterGroup (w : BitVec 32) : Option Format :=
  if w.extractLsb' 24 5 = 0b01010#5 then
    some (.logicalShift (w.extractLsb' 31 1) (w.extractLsb' 29 2) (w.extractLsb' 22 2)
      (w.extractLsb' 21 1) (w.extractLsb' 16 5) (w.extractLsb' 10 6) (w.extractLsb' 5 5)
      (w.extractLsb' 0 5))
  else if w.extractLsb' 24 5 = 0b01011#5 then
    if w.extractLsb' 21 1 = 0#1 then
      some (.addSubShift (w.extractLsb' 31 1) (w.extractLsb' 30 1) (w.extractLsb' 29 1)
        (w.extractLsb' 22 2) (w.extractLsb' 16 5) (w.extractLsb' 10 6) (w.extractLsb' 5 5)
        (w.extractLsb' 0 5))
    else
      some (.addSubExt (w.extractLsb' 31 1) (w.extractLsb' 30 1) (w.extractLsb' 29 1)
        (w.extractLsb' 22 2) (w.extractLsb' 16 5) (w.extractLsb' 13 3) (w.extractLsb' 10 3)
        (w.extractLsb' 5 5) (w.extractLsb' 0 5))
  else if w.extractLsb' 24 5 = 0b11011#5 then
    some (.dp3 (w.extractLsb' 31 1) (w.extractLsb' 29 2) (w.extractLsb' 21 3) (w.extractLsb' 16 5)
      (w.extractLsb' 15 1) (w.extractLsb' 10 5) (w.extractLsb' 5 5) (w.extractLsb' 0 5))
  else if w.extractLsb' 21 8 = 0b11010000#8 then
    some (.addSubCarry (w.extractLsb' 31 1) (w.extractLsb' 30 1) (w.extractLsb' 29 1)
      (w.extractLsb' 16 5) (w.extractLsb' 10 6) (w.extractLsb' 5 5) (w.extractLsb' 0 5))
  else if w.extractLsb' 21 8 = 0b11010010#8 then
    some (.condCmp (w.extractLsb' 31 1) (w.extractLsb' 30 1) (w.extractLsb' 29 1)
      (w.extractLsb' 16 5) (w.extractLsb' 12 4) (w.extractLsb' 11 1) (w.extractLsb' 10 1)
      (w.extractLsb' 5 5) (w.extractLsb' 4 1) (w.extractLsb' 0 4))
  else if w.extractLsb' 21 8 = 0b11010100#8 then
    some (.condSel (w.extractLsb' 31 1) (w.extractLsb' 30 1) (w.extractLsb' 29 1)
      (w.extractLsb' 16 5) (w.extractLsb' 12 4) (w.extractLsb' 10 2) (w.extractLsb' 5 5)
      (w.extractLsb' 0 5))
  else if w.extractLsb' 21 10 = 0b1011010110#10 then
    some (.dp1 (w.extractLsb' 31 1) (w.extractLsb' 16 5) (w.extractLsb' 10 6) (w.extractLsb' 5 5)
      (w.extractLsb' 0 5))
  else if w.extractLsb' 21 10 = 0b0011010110#10 then
    some (.dp2 (w.extractLsb' 31 1) (w.extractLsb' 16 5) (w.extractLsb' 10 6) (w.extractLsb' 5 5)
      (w.extractLsb' 0 5))
  else none

/-- Integer loads and stores: R372. -/
def Format.ofLoadStoreGroup (w : BitVec 32) : Option Format :=
  if w.extractLsb' 25 5 = 0b10100#5 then
    some (.ldstPair (w.extractLsb' 30 2) (w.extractLsb' 23 2) (w.extractLsb' 22 1)
      (w.extractLsb' 15 7) (w.extractLsb' 10 5) (w.extractLsb' 5 5) (w.extractLsb' 0 5))
  else if w.extractLsb' 24 6 = 0b001000#6 then
    some (.ldstExclusive (w.extractLsb' 30 2) (w.extractLsb' 23 1) (w.extractLsb' 22 1)
      (w.extractLsb' 21 1) (w.extractLsb' 16 5) (w.extractLsb' 15 1) (w.extractLsb' 10 5)
      (w.extractLsb' 5 5) (w.extractLsb' 0 5))
  else if w.extractLsb' 24 6 = 0b011000#6 then
    some (.ldLiteral (w.extractLsb' 30 2) (w.extractLsb' 5 19) (w.extractLsb' 0 5))
  else if w.extractLsb' 24 6 = 0b111001#6 then
    some (.ldstUnsigned (w.extractLsb' 30 2) (w.extractLsb' 22 2) (w.extractLsb' 10 12)
      (w.extractLsb' 5 5) (w.extractLsb' 0 5))
  else if w.extractLsb' 24 6 = 0b111000#6 then
    if w.extractLsb' 21 1 = 0#1 then
      some (.ldstSigned (w.extractLsb' 30 2) (w.extractLsb' 22 2) (w.extractLsb' 12 9)
        (w.extractLsb' 10 2) (w.extractLsb' 5 5) (w.extractLsb' 0 5))
    else if w.extractLsb' 10 2 = 0b00#2 then
      some (.atomic (w.extractLsb' 30 2) (w.extractLsb' 23 1) (w.extractLsb' 22 1)
        (w.extractLsb' 16 5) (w.extractLsb' 15 1) (w.extractLsb' 12 3) (w.extractLsb' 5 5)
        (w.extractLsb' 0 5))
    else if w.extractLsb' 10 2 = 0b10#2 then
      some (.ldstRegister (w.extractLsb' 30 2) (w.extractLsb' 22 2) (w.extractLsb' 16 5)
        (w.extractLsb' 13 3) (w.extractLsb' 12 1) (w.extractLsb' 5 5) (w.extractLsb' 0 5))
    else none
  else none

/-- Top-level decode: bits [28:25] select the group (R93). -/
def Format.ofWord (w : BitVec 32) : Option Format :=
  let b28 := w.getLsbD 28
  let b27 := w.getLsbD 27
  let b26 := w.getLsbD 26
  let b25 := w.getLsbD 25
  if b28 && !b27 && !b26 then ofImmediateGroup w
  else if b28 && !b27 && b26 then ofBranchGroup w
  else if b27 && !b26 && b25 then ofRegisterGroup w
  else if b27 && !b25 then ofLoadStoreGroup w
  else if !b28 && !b27 && !b26 && !b25 && decide (w.extractLsb' 16 16 = 0#16) then
    some (.udf (w.extractLsb' 0 16))
  else none

/-! ## From a format to its instruction -/

/-- The unsigned-offset form of a single-register load or store (R372). -/
def unsignedOffsetOf (kind : LdStKind) (imm12 : BitVec 12) (rn rt : RegNum) : Instr :=
  match kind with
  | .strb => .strbUnsignedOffset imm12 rn rt
  | .ldrb => .ldrbUnsignedOffset imm12 rn rt
  | .ldrsbX => .ldrsbXUnsignedOffset imm12 rn rt
  | .ldrsbW => .ldrsbWUnsignedOffset imm12 rn rt
  | .strh => .strhUnsignedOffset imm12 rn rt
  | .ldrh => .ldrhUnsignedOffset imm12 rn rt
  | .ldrshX => .ldrshXUnsignedOffset imm12 rn rt
  | .ldrshW => .ldrshWUnsignedOffset imm12 rn rt
  | .strW => .strWUnsignedOffset imm12 rn rt
  | .ldrW => .ldrWUnsignedOffset imm12 rn rt
  | .ldrsw => .ldrswUnsignedOffset imm12 rn rt
  | .strX => .strXUnsignedOffset imm12 rn rt
  | .ldrX => .ldrXUnsignedOffset imm12 rn rt

/-- The unscaled form (R372). -/
def unscaledOf (kind : LdStKind) (imm9 : BitVec 9) (rn rt : RegNum) : Instr :=
  match kind with
  | .strb => .sturb imm9 rn rt
  | .ldrb => .ldurb imm9 rn rt
  | .ldrsbX => .ldursbX imm9 rn rt
  | .ldrsbW => .ldursbW imm9 rn rt
  | .strh => .sturh imm9 rn rt
  | .ldrh => .ldurh imm9 rn rt
  | .ldrshX => .ldurshX imm9 rn rt
  | .ldrshW => .ldurshW imm9 rn rt
  | .strW => .sturW imm9 rn rt
  | .ldrW => .ldurW imm9 rn rt
  | .ldrsw => .ldursw imm9 rn rt
  | .strX => .sturX imm9 rn rt
  | .ldrX => .ldurX imm9 rn rt

/-- The post-index form (R372). -/
def postIndexOf (kind : LdStKind) (imm9 : BitVec 9) (rn rt : RegNum) : Instr :=
  match kind with
  | .strb => .strbPostIndex imm9 rn rt
  | .ldrb => .ldrbPostIndex imm9 rn rt
  | .ldrsbX => .ldrsbXPostIndex imm9 rn rt
  | .ldrsbW => .ldrsbWPostIndex imm9 rn rt
  | .strh => .strhPostIndex imm9 rn rt
  | .ldrh => .ldrhPostIndex imm9 rn rt
  | .ldrshX => .ldrshXPostIndex imm9 rn rt
  | .ldrshW => .ldrshWPostIndex imm9 rn rt
  | .strW => .strWPostIndex imm9 rn rt
  | .ldrW => .ldrWPostIndex imm9 rn rt
  | .ldrsw => .ldrswPostIndex imm9 rn rt
  | .strX => .strXPostIndex imm9 rn rt
  | .ldrX => .ldrXPostIndex imm9 rn rt

/-- The pre-index form (R372). -/
def preIndexOf (kind : LdStKind) (imm9 : BitVec 9) (rn rt : RegNum) : Instr :=
  match kind with
  | .strb => .strbPreIndex imm9 rn rt
  | .ldrb => .ldrbPreIndex imm9 rn rt
  | .ldrsbX => .ldrsbXPreIndex imm9 rn rt
  | .ldrsbW => .ldrsbWPreIndex imm9 rn rt
  | .strh => .strhPreIndex imm9 rn rt
  | .ldrh => .ldrhPreIndex imm9 rn rt
  | .ldrshX => .ldrshXPreIndex imm9 rn rt
  | .ldrshW => .ldrshWPreIndex imm9 rn rt
  | .strW => .strWPreIndex imm9 rn rt
  | .ldrW => .ldrWPreIndex imm9 rn rt
  | .ldrsw => .ldrswPreIndex imm9 rn rt
  | .strX => .strXPreIndex imm9 rn rt
  | .ldrX => .ldrXPreIndex imm9 rn rt

/-- The register-offset form (R372). -/
def registerOffsetOf (kind : LdStKind) (rm : RegNum) (ext : ExtendType) (scaled : Bool) (rn rt : RegNum) : Instr :=
  match kind with
  | .strb => .strbRegisterOffset rm ext scaled rn rt
  | .ldrb => .ldrbRegisterOffset rm ext scaled rn rt
  | .ldrsbX => .ldrsbXRegisterOffset rm ext scaled rn rt
  | .ldrsbW => .ldrsbWRegisterOffset rm ext scaled rn rt
  | .strh => .strhRegisterOffset rm ext scaled rn rt
  | .ldrh => .ldrhRegisterOffset rm ext scaled rn rt
  | .ldrshX => .ldrshXRegisterOffset rm ext scaled rn rt
  | .ldrshW => .ldrshWRegisterOffset rm ext scaled rn rt
  | .strW => .strWRegisterOffset rm ext scaled rn rt
  | .ldrW => .ldrWRegisterOffset rm ext scaled rn rt
  | .ldrsw => .ldrswRegisterOffset rm ext scaled rn rt
  | .strX => .strXRegisterOffset rm ext scaled rn rt
  | .ldrX => .ldrXRegisterOffset rm ext scaled rn rt

/-- The instruction a format's opcode fields select, before the constraints on its other fields;
`none` where they select nothing (R94 to R114, R372). -/
def Format.toInstr? : Format → Option Instr
  | .pcRel op immlo immhi rd => some (if op = 0#1 then .adr immlo immhi rd else .adrp immlo immhi rd)
  | .addSubImm sf op setFlags sh imm12 rn rd =>
    some (match isOne op, isOne setFlags with
      | false, false => .addImmediate (isOne sf) (isOne sh) imm12 rn rd
      | false, true => .addsImmediate (isOne sf) (isOne sh) imm12 rn rd
      | true, false => .subImmediate (isOne sf) (isOne sh) imm12 rn rd
      | true, true => .subsImmediate (isOne sf) (isOne sh) imm12 rn rd)
  | .logicalImm sf opc n immr imms rn rd =>
    some (match opc.toNat with
      | 0 => .andImmediate (isOne sf) (isOne n) immr imms rn rd
      | 1 => .orrImmediate (isOne sf) (isOne n) immr imms rn rd
      | 2 => .eorImmediate (isOne sf) (isOne n) immr imms rn rd
      | _ => .andsImmediate (isOne sf) (isOne n) immr imms rn rd)
  | .moveWide sf opc hw imm16 rd =>
    match opc.toNat with
    | 0 => some (.movn (isOne sf) hw imm16 rd)
    | 2 => some (.movz (isOne sf) hw imm16 rd)
    | 3 => some (.movk (isOne sf) hw imm16 rd)
    | _ => none
  | .bitfield sf opc n immr imms rn rd =>
    match opc.toNat with
    | 0 => some (.sbfm (isOne sf) (isOne n) immr imms rn rd)
    | 1 => some (.bfm (isOne sf) (isOne n) immr imms rn rd)
    | 2 => some (.ubfm (isOne sf) (isOne n) immr imms rn rd)
    | _ => none
  | .extract sf op21 n o0 rm imms rn rd =>
    if op21 = 0#2 ∧ o0 = 0#1 then some (.extr (isOne sf) (isOne n) rm imms rn rd) else none
  | .logicalShift sf opc shift n rm imm6 rn rd =>
    some (match opc.toNat, isOne n with
      | 0, false => .andShiftedRegister (isOne sf) (shiftOfBits shift) rm imm6 rn rd
      | 0, true => .bicShiftedRegister (isOne sf) (shiftOfBits shift) rm imm6 rn rd
      | 1, false => .orrShiftedRegister (isOne sf) (shiftOfBits shift) rm imm6 rn rd
      | 1, true => .ornShiftedRegister (isOne sf) (shiftOfBits shift) rm imm6 rn rd
      | 2, false => .eorShiftedRegister (isOne sf) (shiftOfBits shift) rm imm6 rn rd
      | 2, true => .eonShiftedRegister (isOne sf) (shiftOfBits shift) rm imm6 rn rd
      | _, false => .andsShiftedRegister (isOne sf) (shiftOfBits shift) rm imm6 rn rd
      | _, true => .bicsShiftedRegister (isOne sf) (shiftOfBits shift) rm imm6 rn rd)
  | .addSubShift sf op setFlags shift rm imm6 rn rd =>
    some (match isOne op, isOne setFlags with
      | false, false => .addShiftedRegister (isOne sf) (shiftOfBits shift) rm imm6 rn rd
      | false, true => .addsShiftedRegister (isOne sf) (shiftOfBits shift) rm imm6 rn rd
      | true, false => .subShiftedRegister (isOne sf) (shiftOfBits shift) rm imm6 rn rd
      | true, true => .subsShiftedRegister (isOne sf) (shiftOfBits shift) rm imm6 rn rd)
  | .addSubExt sf op setFlags opt rm option imm3 rn rd =>
    if opt = 0#2 then
      some (match isOne op, isOne setFlags with
        | false, false => .addExtendedRegister (isOne sf) rm (extendOfBits option) imm3 rn rd
        | false, true => .addsExtendedRegister (isOne sf) rm (extendOfBits option) imm3 rn rd
        | true, false => .subExtendedRegister (isOne sf) rm (extendOfBits option) imm3 rn rd
        | true, true => .subsExtendedRegister (isOne sf) rm (extendOfBits option) imm3 rn rd)
    else none
  | .addSubCarry sf op setFlags rm opcode2 rn rd =>
    if opcode2 = 0#6 then
      some (match isOne op, isOne setFlags with
        | false, false => .adc (isOne sf) rm rn rd
        | false, true => .adcs (isOne sf) rm rn rd
        | true, false => .sbc (isOne sf) rm rn rd
        | true, true => .sbcs (isOne sf) rm rn rd)
    else none
  | .condCmp sf op setFlags rmImm5 cond i o2 rn o3 nzcv =>
    if setFlags = 1#1 ∧ o2 = 0#1 ∧ o3 = 0#1 then
      some (match isOne op, isOne i with
        | false, false => .ccmnRegister (isOne sf) rmImm5 cond rn nzcv
        | true, false => .ccmpRegister (isOne sf) rmImm5 cond rn nzcv
        | false, true => .ccmnImmediate (isOne sf) rmImm5 cond rn nzcv
        | true, true => .ccmpImmediate (isOne sf) rmImm5 cond rn nzcv)
    else none
  | .condSel sf op setFlags rm cond op2 rn rd =>
    if setFlags = 0#1 then
      match isOne op, op2.toNat with
      | false, 0 => some (.csel (isOne sf) rm cond rn rd)
      | false, 1 => some (.csinc (isOne sf) rm cond rn rd)
      | true, 0 => some (.csinv (isOne sf) rm cond rn rd)
      | true, 1 => some (.csneg (isOne sf) rm cond rn rd)
      | _, _ => none
    else none
  | .dp1 sf opcode2 opcode rn rd =>
    if opcode2 = 0#5 then
      match opcode.toNat, isOne sf with
      | 0, _ => some (.rbit (isOne sf) rn rd)
      | 1, _ => some (.rev16 (isOne sf) rn rd)
      | 2, false => some (.revW rn rd)
      | 2, true => some (.rev32 rn rd)
      | 3, true => some (.revX rn rd)
      | 4, _ => some (.clz (isOne sf) rn rd)
      | 5, _ => some (.cls (isOne sf) rn rd)
      | _, _ => none
    else none
  | .dp2 sf rm opcode rn rd =>
    match opcode.toNat, isOne sf with
    | 2, _ => some (.udiv (isOne sf) rm rn rd)
    | 3, _ => some (.sdiv (isOne sf) rm rn rd)
    | 8, _ => some (.lslv (isOne sf) rm rn rd)
    | 9, _ => some (.lsrv (isOne sf) rm rn rd)
    | 10, _ => some (.asrv (isOne sf) rm rn rd)
    | 11, _ => some (.rorv (isOne sf) rm rn rd)
    | 16, false => some (.crc32b rm rn rd)
    | 17, false => some (.crc32h rm rn rd)
    | 18, false => some (.crc32w rm rn rd)
    | 19, true => some (.crc32x rm rn rd)
    | 20, false => some (.crc32cb rm rn rd)
    | 21, false => some (.crc32ch rm rn rd)
    | 22, false => some (.crc32cw rm rn rd)
    | 23, true => some (.crc32cx rm rn rd)
    | _, _ => none
  | .dp3 sf op54 op31 rm o0 ra rn rd =>
    if op54 = 0#2 then
      match op31.toNat, isOne o0, isOne sf with
      | 0, false, _ => some (.madd (isOne sf) rm ra rn rd)
      | 0, true, _ => some (.msub (isOne sf) rm ra rn rd)
      | 1, false, true => some (.smaddl rm ra rn rd)
      | 1, true, true => some (.smsubl rm ra rn rd)
      | 2, false, true => some (.smulh rm ra rn rd)
      | 5, false, true => some (.umaddl rm ra rn rd)
      | 5, true, true => some (.umsubl rm ra rn rd)
      | 6, false, true => some (.umulh rm ra rn rd)
      | _, _, _ => none
    else none
  | .branchImm op imm26 => some (if op = 0#1 then .b imm26 else .bl imm26)
  | .compareBranch sf op imm19 rt =>
    some (if op = 0#1 then .cbz (isOne sf) imm19 rt else .cbnz (isOne sf) imm19 rt)
  | .testBranch b5 op b40 imm14 rt =>
    some (if op = 0#1 then .tbz (isOne b5) b40 imm14 rt else .tbnz (isOne b5) b40 imm14 rt)
  | .condBranch o1 imm19 o0 cond => if o1 = 0#1 ∧ o0 = 0#1 then some (.bCond imm19 cond) else none
  | .branchReg opc op2 op3 rn op4 =>
    if op2 = 31#5 ∧ op3 = 0#6 ∧ op4 = 0#5 then
      match opc.toNat with
      | 0 => some (.br rn)
      | 1 => some (.blr rn)
      | 2 => some (.ret rn)
      | _ => none
    else none
  | .exception opc imm16 ll => if opc = 0b010#3 ∧ ll = 0#5 then some (.hlt imm16) else none
  | .sysRegMove l sysreg rt =>
    if sysreg = sysregNzcv then some (if l = 1#1 then .mrsNzcv rt else .msrNzcv rt)
    else if sysreg = sysregFpcr then some (if l = 1#1 then .mrsFpcr rt else .msrFpcr rt)
    else if sysreg = sysregRndr ∧ l = 1#1 then some (.mrsRndr rt)
    else if sysreg = sysregRndrrs ∧ l = 1#1 then some (.mrsRndrrs rt)
    else none
  | .hint imm7 =>
    some (match imm7.toNat with
      | 0 => .nop
      | 16 => .esb
      | 20 => .csdb
      | 32 => .bti
      | 34 => .btiC
      | 36 => .btiJ
      | 38 => .btiJc
      | _ => .hint imm7)
  | .barrier crm op2 =>
    match op2.toNat with
    | 2 => some (.clrex crm)
    | 4 => some (.dsb crm)
    | 5 => some (.dmb crm)
    | 6 => some (.isb crm)
    | _ => none
  | .sysOp op1 crn crm op2 rt => some (.sys op1 crn crm op2 rt)
  | .udf imm16 => some (.udf imm16)
  | .ldstUnsigned size opc imm12 rn rt =>
    (ldStKindOf size opc).map fun kind => unsignedOffsetOf kind imm12 rn rt
  | .ldstSigned size opc imm9 mode rn rt =>
    match mode.toNat with
    | 0 => (ldStKindOf size opc).map fun kind => unscaledOf kind imm9 rn rt
    | 1 => (ldStKindOf size opc).map fun kind => postIndexOf kind imm9 rn rt
    | 3 => (ldStKindOf size opc).map fun kind => preIndexOf kind imm9 rn rt
    | _ => none
  | .ldstRegister size opc rm option scaled rn rt =>
    (ldStKindOf size opc).map fun kind =>
      registerOffsetOf kind rm (extendOfBits option) (isOne scaled) rn rt
  | .ldstPair opc mode l imm7 rt2 rn rt =>
    match opc.toNat, mode.toNat, isOne l with
    | 0, 1, false => some (.stpWPostIndex imm7 rt2 rn rt)
    | 0, 2, false => some (.stpWOffset imm7 rt2 rn rt)
    | 0, 3, false => some (.stpWPreIndex imm7 rt2 rn rt)
    | 0, 1, true => some (.ldpWPostIndex imm7 rt2 rn rt)
    | 0, 2, true => some (.ldpWOffset imm7 rt2 rn rt)
    | 0, 3, true => some (.ldpWPreIndex imm7 rt2 rn rt)
    | 2, 1, false => some (.stpXPostIndex imm7 rt2 rn rt)
    | 2, 2, false => some (.stpXOffset imm7 rt2 rn rt)
    | 2, 3, false => some (.stpXPreIndex imm7 rt2 rn rt)
    | 2, 1, true => some (.ldpXPostIndex imm7 rt2 rn rt)
    | 2, 2, true => some (.ldpXOffset imm7 rt2 rn rt)
    | 2, 3, true => some (.ldpXPreIndex imm7 rt2 rn rt)
    | _, _, _ => none
  | .ldLiteral opc imm19 rt =>
    match opc.toNat with
    | 0 => some (.ldrWLiteral imm19 rt)
    | 1 => some (.ldrXLiteral imm19 rt)
    | 2 => some (.ldrswLiteral imm19 rt)
    | _ => none
  | .ldstExclusive size o2 l o1 rs o0 rt2 rn rt =>
    if rt2 = 31#5 then
      match isOne o2, isOne o1, isOne l with
      | false, false, false =>
        some (if o0 = 0#1 then .stxr (sizeOfBits size) rs rn rt else .stlxr (sizeOfBits size) rs rn rt)
      | false, false, true =>
        if rs = 31#5 then
          some (if o0 = 0#1 then .ldxr (sizeOfBits size) rn rt else .ldaxr (sizeOfBits size) rn rt)
        else none
      | true, false, false =>
        if rs = 31#5 ∧ o0 = 1#1 then some (.stlr (sizeOfBits size) rn rt) else none
      | true, false, true =>
        if rs = 31#5 ∧ o0 = 1#1 then some (.ldar (sizeOfBits size) rn rt) else none
      | true, true, acq => some (.cas (sizeOfBits size) acq rs (isOne o0) rn rt)
      | false, true, _ => none
    else none
  | .atomic size a r rs o3 opc rn rt =>
    match isOne o3, opc.toNat with
    | false, 0 => some (.ldadd (sizeOfBits size) (isOne a) (isOne r) rs rn rt)
    | false, 1 => some (.ldclr (sizeOfBits size) (isOne a) (isOne r) rs rn rt)
    | false, 2 => some (.ldeor (sizeOfBits size) (isOne a) (isOne r) rs rn rt)
    | false, 3 => some (.ldset (sizeOfBits size) (isOne a) (isOne r) rs rn rt)
    | false, 4 => some (.ldsmax (sizeOfBits size) (isOne a) (isOne r) rs rn rt)
    | false, 5 => some (.ldsmin (sizeOfBits size) (isOne a) (isOne r) rs rn rt)
    | false, 6 => some (.ldumax (sizeOfBits size) (isOne a) (isOne r) rs rn rt)
    | false, _ => some (.ldumin (sizeOfBits size) (isOne a) (isOne r) rs rn rt)
    | true, 0 => some (.swp (sizeOfBits size) (isOne a) (isOne r) rs rn rt)
    | true, 4 =>
      if a = 1#1 ∧ r = 0#1 ∧ rs = 31#5 then some (.ldapr (sizeOfBits size) rn rt) else none
    | true, _ => none

/-! ## Rejected words -/

/-- The real instructions without a rule, among the words that have one of the formats: other system
registers (R384), other exception-generating and exception-return instructions (R393), prefetch,
non-temporal pairs, unprivileged and limited-ordering accesses (R374). Their opcodes, but for the
MRS and MSR format, are PRESUMED (log 14). -/
def Format.isUnimplemented : Format → Bool
  | .sysRegMove _ _ _ => true
  | .exception opc _ ll =>
    (opc == 0b000#3 && (ll == 1#5 || ll == 2#5 || ll == 3#5)) || (opc == 0b001#3 && ll == 0#5) ||
      (opc == 0b101#3 && (ll == 1#5 || ll == 2#5 || ll == 3#5))
  | .branchReg opc op2 op3 rn op4 =>
    op2 == 31#5 && rn == 31#5 &&
      (((opc == 0b0100#4 || opc == 0b0101#4) && op3 == 0#6 && op4 == 0#5) ||
        (opc == 0b0100#4 && (op3 == 2#6 || op3 == 3#6) && op4 == 31#5))
  | .ldstUnsigned size opc _ _ _ => size == 3#2 && opc == 2#2
  | .ldstSigned size opc _ mode _ _ =>
    (size == 3#2 && opc == 2#2 && mode == 0#2) || (mode == 2#2 && (ldStKindOf size opc).isSome)
  | .ldstRegister size opc _ _ _ _ _ => size == 3#2 && opc == 2#2
  | .ldLiteral opc _ _ => opc == 3#2
  | .ldstPair opc mode _ _ _ _ _ => mode == 0#2 && (opc == 0#2 || opc == 2#2)
  | .ldstExclusive _ o2 _ o1 rs o0 rt2 _ _ =>
    o2 == 1#1 && o1 == 0#1 && o0 == 0#1 && rs == 31#5 && rt2 == 31#5
  | _ => false

/-- The pointer-authentication words among those that have one of the formats (R106, R107, R113). -/
def Format.pointerAuthentication? : Format → Option String
  | .dp1 sf opcode2 _ _ _ =>
    if sf = 1#1 ∧ opcode2 = 1#5 then some "pointer authentication, one source" else none
  | .dp2 sf _ opcode _ _ => if sf = 1#1 ∧ opcode = 0b001100#6 then some "PACGA" else none
  | .branchReg opc op2 op3 _ _ =>
    if op2 = 31#5 ∧ op3.getLsbD 1 ∧ (opc.getLsbD 2 = false) then
      some "pointer-authenticating branch"
    else none
  | _ => none

/-- MSR (immediate) (R384) and the memory-tagging accesses (R374), which have no format in the spec;
the masks are PRESUMED (log 14). -/
def unimplementedWord (w : BitVec 32) : Bool :=
  (w &&& 0xFFF8F01F#32) == 0xD500401F#32 || (w &&& 0xFF200000#32) == 0xD9200000#32

/-- LDRAA and LDRAB (R371), which have no format in the spec; the mask is PRESUMED (log 14). -/
def authenticatedLoadWord (w : BitVec 32) : Bool := (w &&& 0xFF200400#32) == 0xF8200400#32

/-- Which kind of rejection a word gets that is no well-formed instruction (R124, R126). -/
def rejectionOf (w : BitVec 32) : Reject :=
  if authenticatedLoadWord w then .pointerAuthentication "LDRAA, LDRAB"
  else if unimplementedWord w then .unimplemented
  else
    match Format.ofWord w with
    | none => .unallocated
    | some f =>
      match f.pointerAuthentication? with
      | some name => .pointerAuthentication name
      | none => if f.isUnimplemented && f.toInstr?.isNone then .unimplemented else .unallocated

/-- The well-formed instruction of a word, if it is one. -/
def decodeWord? (w : BitVec 32) : Option Instr :=
  match (Format.ofWord w).bind Format.toInstr? with
  | some i => if i.wellFormed then some i else none
  | none => none

/-- Decoding is total: a word is an instruction or is rejected by name (R90, R455). -/
def decode (w : BitVec 32) : Decoded :=
  match decodeWord? w with
  | some i => .instr i
  | none => .rejected (rejectionOf w)

/-- The word that four bytes hold, lowest address first (R69). -/
def wordOfBytes (b0 b1 b2 b3 : Byte) : BitVec 32 := b3 ++ b2 ++ b1 ++ b0

/-- Decode the first instruction of a byte string; the rest of the string is what follows it. Fewer
than four bytes select nothing (R92). -/
def decodeBytes : List Byte → Decoded × List Byte
  | b0 :: b1 :: b2 :: b3 :: rest => (decode (wordOfBytes b0 b1 b2 b3), rest)
  | short => (.rejected .unallocated, short)

/-! ## The encoder -/

/-- The word of a format: the tables of R94 to R114 and R372, bit 31 leftmost. -/
def Format.toWord : Format → BitVec 32
  | .pcRel op immlo immhi rd => op ++ immlo ++ 0b10000#5 ++ immhi ++ rd
  | .addSubImm sf op setFlags sh imm12 rn rd =>
    sf ++ op ++ setFlags ++ 0b100010#6 ++ sh ++ imm12 ++ rn ++ rd
  | .logicalImm sf opc n immr imms rn rd => sf ++ opc ++ 0b100100#6 ++ n ++ immr ++ imms ++ rn ++ rd
  | .moveWide sf opc hw imm16 rd => sf ++ opc ++ 0b100101#6 ++ hw ++ imm16 ++ rd
  | .bitfield sf opc n immr imms rn rd => sf ++ opc ++ 0b100110#6 ++ n ++ immr ++ imms ++ rn ++ rd
  | .extract sf op21 n o0 rm imms rn rd =>
    sf ++ op21 ++ 0b100111#6 ++ n ++ o0 ++ rm ++ imms ++ rn ++ rd
  | .logicalShift sf opc shift n rm imm6 rn rd =>
    sf ++ opc ++ 0b01010#5 ++ shift ++ n ++ rm ++ imm6 ++ rn ++ rd
  | .addSubShift sf op setFlags shift rm imm6 rn rd =>
    sf ++ op ++ setFlags ++ 0b01011#5 ++ shift ++ 0#1 ++ rm ++ imm6 ++ rn ++ rd
  | .addSubExt sf op setFlags opt rm option imm3 rn rd =>
    sf ++ op ++ setFlags ++ 0b01011#5 ++ opt ++ 1#1 ++ rm ++ option ++ imm3 ++ rn ++ rd
  | .addSubCarry sf op setFlags rm opcode2 rn rd =>
    sf ++ op ++ setFlags ++ 0b11010000#8 ++ rm ++ opcode2 ++ rn ++ rd
  | .condCmp sf op setFlags rmImm5 cond i o2 rn o3 nzcv =>
    sf ++ op ++ setFlags ++ 0b11010010#8 ++ rmImm5 ++ cond ++ i ++ o2 ++ rn ++ o3 ++ nzcv
  | .condSel sf op setFlags rm cond op2 rn rd =>
    sf ++ op ++ setFlags ++ 0b11010100#8 ++ rm ++ cond ++ op2 ++ rn ++ rd
  | .dp1 sf opcode2 opcode rn rd => sf ++ 0b1011010110#10 ++ opcode2 ++ opcode ++ rn ++ rd
  | .dp2 sf rm opcode rn rd => sf ++ 0b0011010110#10 ++ rm ++ opcode ++ rn ++ rd
  | .dp3 sf op54 op31 rm o0 ra rn rd => sf ++ op54 ++ 0b11011#5 ++ op31 ++ rm ++ o0 ++ ra ++ rn ++ rd
  | .branchImm op imm26 => op ++ 0b00101#5 ++ imm26
  | .compareBranch sf op imm19 rt => sf ++ 0b011010#6 ++ op ++ imm19 ++ rt
  | .testBranch b5 op b40 imm14 rt => b5 ++ 0b011011#6 ++ op ++ b40 ++ imm14 ++ rt
  | .condBranch o1 imm19 o0 cond => 0b0101010#7 ++ o1 ++ imm19 ++ o0 ++ cond
  | .branchReg opc op2 op3 rn op4 => 0b1101011#7 ++ opc ++ op2 ++ op3 ++ rn ++ op4
  | .exception opc imm16 ll => 0b11010100#8 ++ opc ++ imm16 ++ ll
  | .sysRegMove l sysreg rt => 0b1101010100#10 ++ l ++ 1#1 ++ sysreg ++ rt
  | .hint imm7 => 0xD5032#20 ++ imm7 ++ 0b11111#5
  | .barrier crm op2 => 0xD5033#20 ++ crm ++ op2 ++ 0b11111#5
  | .sysOp op1 crn crm op2 rt => 0b1101010100001#13 ++ op1 ++ crn ++ crm ++ op2 ++ rt
  | .udf imm16 => 0#16 ++ imm16
  | .ldstUnsigned size opc imm12 rn rt => size ++ 0b111001#6 ++ opc ++ imm12 ++ rn ++ rt
  | .ldstSigned size opc imm9 mode rn rt =>
    size ++ 0b111000#6 ++ opc ++ 0#1 ++ imm9 ++ mode ++ rn ++ rt
  | .ldstRegister size opc rm option scaled rn rt =>
    size ++ 0b111000#6 ++ opc ++ 1#1 ++ rm ++ option ++ scaled ++ 0b10#2 ++ rn ++ rt
  | .ldstPair opc mode l imm7 rt2 rn rt => opc ++ 0b10100#5 ++ mode ++ l ++ imm7 ++ rt2 ++ rn ++ rt
  | .ldLiteral opc imm19 rt => opc ++ 0b011000#6 ++ imm19 ++ rt
  | .ldstExclusive size o2 l o1 rs o0 rt2 rn rt =>
    size ++ 0b001000#6 ++ o2 ++ l ++ o1 ++ rs ++ o0 ++ rt2 ++ rn ++ rt
  | .atomic size a r rs o3 opc rn rt =>
    size ++ 0b111000#6 ++ a ++ r ++ 1#1 ++ rs ++ o3 ++ opc ++ 0b00#2 ++ rn ++ rt

/-- The format of an instruction, its opcode fields as spec/opcode_table.json fixes them. -/
def Instr.toFormat : Instr → Format
  | .addImmediate sf sh imm12 rn rd => .addSubImm (BitVec.ofBool sf) 0#1 0#1 (BitVec.ofBool sh) imm12 rn rd
  | .addsImmediate sf sh imm12 rn rd => .addSubImm (BitVec.ofBool sf) 0#1 1#1 (BitVec.ofBool sh) imm12 rn rd
  | .subImmediate sf sh imm12 rn rd => .addSubImm (BitVec.ofBool sf) 1#1 0#1 (BitVec.ofBool sh) imm12 rn rd
  | .subsImmediate sf sh imm12 rn rd => .addSubImm (BitVec.ofBool sf) 1#1 1#1 (BitVec.ofBool sh) imm12 rn rd
  | .addShiftedRegister sf shift rm imm6 rn rd => .addSubShift (BitVec.ofBool sf) 0#1 0#1 (shiftBits shift) rm imm6 rn rd
  | .addsShiftedRegister sf shift rm imm6 rn rd => .addSubShift (BitVec.ofBool sf) 0#1 1#1 (shiftBits shift) rm imm6 rn rd
  | .subShiftedRegister sf shift rm imm6 rn rd => .addSubShift (BitVec.ofBool sf) 1#1 0#1 (shiftBits shift) rm imm6 rn rd
  | .subsShiftedRegister sf shift rm imm6 rn rd => .addSubShift (BitVec.ofBool sf) 1#1 1#1 (shiftBits shift) rm imm6 rn rd
  | .addExtendedRegister sf rm ext imm3 rn rd => .addSubExt (BitVec.ofBool sf) 0#1 0#1 0#2 rm (extendBits ext) imm3 rn rd
  | .addsExtendedRegister sf rm ext imm3 rn rd => .addSubExt (BitVec.ofBool sf) 0#1 1#1 0#2 rm (extendBits ext) imm3 rn rd
  | .subExtendedRegister sf rm ext imm3 rn rd => .addSubExt (BitVec.ofBool sf) 1#1 0#1 0#2 rm (extendBits ext) imm3 rn rd
  | .subsExtendedRegister sf rm ext imm3 rn rd => .addSubExt (BitVec.ofBool sf) 1#1 1#1 0#2 rm (extendBits ext) imm3 rn rd
  | .adc sf rm rn rd => .addSubCarry (BitVec.ofBool sf) 0#1 0#1 rm 0b000000#6 rn rd
  | .adcs sf rm rn rd => .addSubCarry (BitVec.ofBool sf) 0#1 1#1 rm 0b000000#6 rn rd
  | .sbc sf rm rn rd => .addSubCarry (BitVec.ofBool sf) 1#1 0#1 rm 0b000000#6 rn rd
  | .sbcs sf rm rn rd => .addSubCarry (BitVec.ofBool sf) 1#1 1#1 rm 0b000000#6 rn rd
  | .andShiftedRegister sf shift rm imm6 rn rd => .logicalShift (BitVec.ofBool sf) 0#2 (shiftBits shift) 0#1 rm imm6 rn rd
  | .bicShiftedRegister sf shift rm imm6 rn rd => .logicalShift (BitVec.ofBool sf) 0#2 (shiftBits shift) 1#1 rm imm6 rn rd
  | .orrShiftedRegister sf shift rm imm6 rn rd => .logicalShift (BitVec.ofBool sf) 1#2 (shiftBits shift) 0#1 rm imm6 rn rd
  | .ornShiftedRegister sf shift rm imm6 rn rd => .logicalShift (BitVec.ofBool sf) 1#2 (shiftBits shift) 1#1 rm imm6 rn rd
  | .eorShiftedRegister sf shift rm imm6 rn rd => .logicalShift (BitVec.ofBool sf) 2#2 (shiftBits shift) 0#1 rm imm6 rn rd
  | .eonShiftedRegister sf shift rm imm6 rn rd => .logicalShift (BitVec.ofBool sf) 2#2 (shiftBits shift) 1#1 rm imm6 rn rd
  | .andsShiftedRegister sf shift rm imm6 rn rd => .logicalShift (BitVec.ofBool sf) 3#2 (shiftBits shift) 0#1 rm imm6 rn rd
  | .bicsShiftedRegister sf shift rm imm6 rn rd => .logicalShift (BitVec.ofBool sf) 3#2 (shiftBits shift) 1#1 rm imm6 rn rd
  | .andImmediate sf nBit immr imms rn rd => .logicalImm (BitVec.ofBool sf) 0#2 (BitVec.ofBool nBit) immr imms rn rd
  | .orrImmediate sf nBit immr imms rn rd => .logicalImm (BitVec.ofBool sf) 1#2 (BitVec.ofBool nBit) immr imms rn rd
  | .eorImmediate sf nBit immr imms rn rd => .logicalImm (BitVec.ofBool sf) 2#2 (BitVec.ofBool nBit) immr imms rn rd
  | .andsImmediate sf nBit immr imms rn rd => .logicalImm (BitVec.ofBool sf) 3#2 (BitVec.ofBool nBit) immr imms rn rd
  | .movn sf hw imm16 rd => .moveWide (BitVec.ofBool sf) 0#2 hw imm16 rd
  | .movz sf hw imm16 rd => .moveWide (BitVec.ofBool sf) 2#2 hw imm16 rd
  | .movk sf hw imm16 rd => .moveWide (BitVec.ofBool sf) 3#2 hw imm16 rd
  | .ccmnRegister sf rm cond rn nzcv => .condCmp (BitVec.ofBool sf) 0#1 1#1 rm cond 0#1 0#1 rn 0#1 nzcv
  | .ccmpRegister sf rm cond rn nzcv => .condCmp (BitVec.ofBool sf) 1#1 1#1 rm cond 0#1 0#1 rn 0#1 nzcv
  | .ccmnImmediate sf imm5 cond rn nzcv => .condCmp (BitVec.ofBool sf) 0#1 1#1 imm5 cond 1#1 0#1 rn 0#1 nzcv
  | .ccmpImmediate sf imm5 cond rn nzcv => .condCmp (BitVec.ofBool sf) 1#1 1#1 imm5 cond 1#1 0#1 rn 0#1 nzcv
  | .csel sf rm cond rn rd => .condSel (BitVec.ofBool sf) 0#1 0#1 rm cond 0#2 rn rd
  | .csinc sf rm cond rn rd => .condSel (BitVec.ofBool sf) 0#1 0#1 rm cond 1#2 rn rd
  | .csinv sf rm cond rn rd => .condSel (BitVec.ofBool sf) 1#1 0#1 rm cond 0#2 rn rd
  | .csneg sf rm cond rn rd => .condSel (BitVec.ofBool sf) 1#1 0#1 rm cond 1#2 rn rd
  | .sbfm sf nBit immr imms rn rd => .bitfield (BitVec.ofBool sf) 0#2 (BitVec.ofBool nBit) immr imms rn rd
  | .bfm sf nBit immr imms rn rd => .bitfield (BitVec.ofBool sf) 1#2 (BitVec.ofBool nBit) immr imms rn rd
  | .ubfm sf nBit immr imms rn rd => .bitfield (BitVec.ofBool sf) 2#2 (BitVec.ofBool nBit) immr imms rn rd
  | .extr sf nBit rm imms rn rd => .extract (BitVec.ofBool sf) 0#2 (BitVec.ofBool nBit) 0#1 rm imms rn rd
  | .rbit sf rn rd => .dp1 (BitVec.ofBool sf) 0b00000#5 0b000000#6 rn rd
  | .rev16 sf rn rd => .dp1 (BitVec.ofBool sf) 0b00000#5 0b000001#6 rn rd
  | .revW rn rd => .dp1 0#1 0b00000#5 0b000010#6 rn rd
  | .rev32 rn rd => .dp1 1#1 0b00000#5 0b000010#6 rn rd
  | .revX rn rd => .dp1 1#1 0b00000#5 0b000011#6 rn rd
  | .clz sf rn rd => .dp1 (BitVec.ofBool sf) 0b00000#5 0b000100#6 rn rd
  | .cls sf rn rd => .dp1 (BitVec.ofBool sf) 0b00000#5 0b000101#6 rn rd
  | .udiv sf rm rn rd => .dp2 (BitVec.ofBool sf) rm 0b000010#6 rn rd
  | .sdiv sf rm rn rd => .dp2 (BitVec.ofBool sf) rm 0b000011#6 rn rd
  | .lslv sf rm rn rd => .dp2 (BitVec.ofBool sf) rm 0b001000#6 rn rd
  | .lsrv sf rm rn rd => .dp2 (BitVec.ofBool sf) rm 0b001001#6 rn rd
  | .asrv sf rm rn rd => .dp2 (BitVec.ofBool sf) rm 0b001010#6 rn rd
  | .rorv sf rm rn rd => .dp2 (BitVec.ofBool sf) rm 0b001011#6 rn rd
  | .crc32b rm rn rd => .dp2 0#1 rm 0b010000#6 rn rd
  | .crc32h rm rn rd => .dp2 0#1 rm 0b010001#6 rn rd
  | .crc32w rm rn rd => .dp2 0#1 rm 0b010010#6 rn rd
  | .crc32x rm rn rd => .dp2 1#1 rm 0b010011#6 rn rd
  | .crc32cb rm rn rd => .dp2 0#1 rm 0b010100#6 rn rd
  | .crc32ch rm rn rd => .dp2 0#1 rm 0b010101#6 rn rd
  | .crc32cw rm rn rd => .dp2 0#1 rm 0b010110#6 rn rd
  | .crc32cx rm rn rd => .dp2 1#1 rm 0b010111#6 rn rd
  | .madd sf rm ra rn rd => .dp3 (BitVec.ofBool sf) 0#2 0b000#3 rm 0#1 ra rn rd
  | .msub sf rm ra rn rd => .dp3 (BitVec.ofBool sf) 0#2 0b000#3 rm 1#1 ra rn rd
  | .smaddl rm ra rn rd => .dp3 1#1 0#2 0b001#3 rm 0#1 ra rn rd
  | .smsubl rm ra rn rd => .dp3 1#1 0#2 0b001#3 rm 1#1 ra rn rd
  | .smulh rm ra rn rd => .dp3 1#1 0#2 0b010#3 rm 0#1 ra rn rd
  | .umaddl rm ra rn rd => .dp3 1#1 0#2 0b101#3 rm 0#1 ra rn rd
  | .umsubl rm ra rn rd => .dp3 1#1 0#2 0b101#3 rm 1#1 ra rn rd
  | .umulh rm ra rn rd => .dp3 1#1 0#2 0b110#3 rm 0#1 ra rn rd
  | .adr immlo immhi rd => .pcRel 0#1 immlo immhi rd
  | .adrp immlo immhi rd => .pcRel 1#1 immlo immhi rd
  | .b imm26 => .branchImm 0#1 imm26
  | .bl imm26 => .branchImm 1#1 imm26
  | .bCond imm19 cond => .condBranch 0#1 imm19 0#1 cond
  | .cbz sf imm19 rt => .compareBranch (BitVec.ofBool sf) 0#1 imm19 rt
  | .cbnz sf imm19 rt => .compareBranch (BitVec.ofBool sf) 1#1 imm19 rt
  | .tbz b5 b40 imm14 rt => .testBranch (BitVec.ofBool b5) 0#1 b40 imm14 rt
  | .tbnz b5 b40 imm14 rt => .testBranch (BitVec.ofBool b5) 1#1 b40 imm14 rt
  | .br rn => .branchReg 0b0000#4 0b11111#5 0b000000#6 rn 0b00000#5
  | .blr rn => .branchReg 0b0001#4 0b11111#5 0b000000#6 rn 0b00000#5
  | .ret rn => .branchReg 0b0010#4 0b11111#5 0b000000#6 rn 0b00000#5
  | .mrsNzcv rt => .sysRegMove 1#1 sysregNzcv rt
  | .msrNzcv rt => .sysRegMove 0#1 sysregNzcv rt
  | .mrsFpcr rt => .sysRegMove 1#1 sysregFpcr rt
  | .msrFpcr rt => .sysRegMove 0#1 sysregFpcr rt
  | .mrsRndr rt => .sysRegMove 1#1 sysregRndr rt
  | .mrsRndrrs rt => .sysRegMove 1#1 sysregRndrrs rt
  | .nop => .hint 0b0000000#7
  | .esb => .hint 0b0010000#7
  | .csdb => .hint 0b0010100#7
  | .bti => .hint 0b0100000#7
  | .btiC => .hint 0b0100010#7
  | .btiJ => .hint 0b0100100#7
  | .btiJc => .hint 0b0100110#7
  | .hint imm7 => .hint imm7
  | .clrex crm => .barrier crm 0b010#3
  | .dsb crm => .barrier crm 0b100#3
  | .dmb crm => .barrier crm 0b101#3
  | .isb crm => .barrier crm 0b110#3
  | .sys op1 crn crm op2 rt => .sysOp op1 crn crm op2 rt
  | .hlt imm16 => .exception 0b010#3 imm16 0b00000#5
  | .udf imm16 => .udf imm16
  | .strbUnsignedOffset imm12 rn rt => .ldstUnsigned 0#2 0#2 imm12 rn rt
  | .sturb imm9 rn rt => .ldstSigned 0#2 0#2 imm9 0#2 rn rt
  | .strbPostIndex imm9 rn rt => .ldstSigned 0#2 0#2 imm9 1#2 rn rt
  | .strbPreIndex imm9 rn rt => .ldstSigned 0#2 0#2 imm9 3#2 rn rt
  | .strbRegisterOffset rm ext scaled rn rt => .ldstRegister 0#2 0#2 rm (extendBits ext) (BitVec.ofBool scaled) rn rt
  | .ldrbUnsignedOffset imm12 rn rt => .ldstUnsigned 0#2 1#2 imm12 rn rt
  | .ldurb imm9 rn rt => .ldstSigned 0#2 1#2 imm9 0#2 rn rt
  | .ldrbPostIndex imm9 rn rt => .ldstSigned 0#2 1#2 imm9 1#2 rn rt
  | .ldrbPreIndex imm9 rn rt => .ldstSigned 0#2 1#2 imm9 3#2 rn rt
  | .ldrbRegisterOffset rm ext scaled rn rt => .ldstRegister 0#2 1#2 rm (extendBits ext) (BitVec.ofBool scaled) rn rt
  | .strhUnsignedOffset imm12 rn rt => .ldstUnsigned 1#2 0#2 imm12 rn rt
  | .sturh imm9 rn rt => .ldstSigned 1#2 0#2 imm9 0#2 rn rt
  | .strhPostIndex imm9 rn rt => .ldstSigned 1#2 0#2 imm9 1#2 rn rt
  | .strhPreIndex imm9 rn rt => .ldstSigned 1#2 0#2 imm9 3#2 rn rt
  | .strhRegisterOffset rm ext scaled rn rt => .ldstRegister 1#2 0#2 rm (extendBits ext) (BitVec.ofBool scaled) rn rt
  | .ldrhUnsignedOffset imm12 rn rt => .ldstUnsigned 1#2 1#2 imm12 rn rt
  | .ldurh imm9 rn rt => .ldstSigned 1#2 1#2 imm9 0#2 rn rt
  | .ldrhPostIndex imm9 rn rt => .ldstSigned 1#2 1#2 imm9 1#2 rn rt
  | .ldrhPreIndex imm9 rn rt => .ldstSigned 1#2 1#2 imm9 3#2 rn rt
  | .ldrhRegisterOffset rm ext scaled rn rt => .ldstRegister 1#2 1#2 rm (extendBits ext) (BitVec.ofBool scaled) rn rt
  | .strWUnsignedOffset imm12 rn rt => .ldstUnsigned 2#2 0#2 imm12 rn rt
  | .sturW imm9 rn rt => .ldstSigned 2#2 0#2 imm9 0#2 rn rt
  | .strWPostIndex imm9 rn rt => .ldstSigned 2#2 0#2 imm9 1#2 rn rt
  | .strWPreIndex imm9 rn rt => .ldstSigned 2#2 0#2 imm9 3#2 rn rt
  | .strWRegisterOffset rm ext scaled rn rt => .ldstRegister 2#2 0#2 rm (extendBits ext) (BitVec.ofBool scaled) rn rt
  | .ldrWUnsignedOffset imm12 rn rt => .ldstUnsigned 2#2 1#2 imm12 rn rt
  | .ldurW imm9 rn rt => .ldstSigned 2#2 1#2 imm9 0#2 rn rt
  | .ldrWPostIndex imm9 rn rt => .ldstSigned 2#2 1#2 imm9 1#2 rn rt
  | .ldrWPreIndex imm9 rn rt => .ldstSigned 2#2 1#2 imm9 3#2 rn rt
  | .ldrWRegisterOffset rm ext scaled rn rt => .ldstRegister 2#2 1#2 rm (extendBits ext) (BitVec.ofBool scaled) rn rt
  | .strXUnsignedOffset imm12 rn rt => .ldstUnsigned 3#2 0#2 imm12 rn rt
  | .sturX imm9 rn rt => .ldstSigned 3#2 0#2 imm9 0#2 rn rt
  | .strXPostIndex imm9 rn rt => .ldstSigned 3#2 0#2 imm9 1#2 rn rt
  | .strXPreIndex imm9 rn rt => .ldstSigned 3#2 0#2 imm9 3#2 rn rt
  | .strXRegisterOffset rm ext scaled rn rt => .ldstRegister 3#2 0#2 rm (extendBits ext) (BitVec.ofBool scaled) rn rt
  | .ldrXUnsignedOffset imm12 rn rt => .ldstUnsigned 3#2 1#2 imm12 rn rt
  | .ldurX imm9 rn rt => .ldstSigned 3#2 1#2 imm9 0#2 rn rt
  | .ldrXPostIndex imm9 rn rt => .ldstSigned 3#2 1#2 imm9 1#2 rn rt
  | .ldrXPreIndex imm9 rn rt => .ldstSigned 3#2 1#2 imm9 3#2 rn rt
  | .ldrXRegisterOffset rm ext scaled rn rt => .ldstRegister 3#2 1#2 rm (extendBits ext) (BitVec.ofBool scaled) rn rt
  | .ldrsbXUnsignedOffset imm12 rn rt => .ldstUnsigned 0#2 2#2 imm12 rn rt
  | .ldursbX imm9 rn rt => .ldstSigned 0#2 2#2 imm9 0#2 rn rt
  | .ldrsbXPostIndex imm9 rn rt => .ldstSigned 0#2 2#2 imm9 1#2 rn rt
  | .ldrsbXPreIndex imm9 rn rt => .ldstSigned 0#2 2#2 imm9 3#2 rn rt
  | .ldrsbXRegisterOffset rm ext scaled rn rt => .ldstRegister 0#2 2#2 rm (extendBits ext) (BitVec.ofBool scaled) rn rt
  | .ldrsbWUnsignedOffset imm12 rn rt => .ldstUnsigned 0#2 3#2 imm12 rn rt
  | .ldursbW imm9 rn rt => .ldstSigned 0#2 3#2 imm9 0#2 rn rt
  | .ldrsbWPostIndex imm9 rn rt => .ldstSigned 0#2 3#2 imm9 1#2 rn rt
  | .ldrsbWPreIndex imm9 rn rt => .ldstSigned 0#2 3#2 imm9 3#2 rn rt
  | .ldrsbWRegisterOffset rm ext scaled rn rt => .ldstRegister 0#2 3#2 rm (extendBits ext) (BitVec.ofBool scaled) rn rt
  | .ldrshXUnsignedOffset imm12 rn rt => .ldstUnsigned 1#2 2#2 imm12 rn rt
  | .ldurshX imm9 rn rt => .ldstSigned 1#2 2#2 imm9 0#2 rn rt
  | .ldrshXPostIndex imm9 rn rt => .ldstSigned 1#2 2#2 imm9 1#2 rn rt
  | .ldrshXPreIndex imm9 rn rt => .ldstSigned 1#2 2#2 imm9 3#2 rn rt
  | .ldrshXRegisterOffset rm ext scaled rn rt => .ldstRegister 1#2 2#2 rm (extendBits ext) (BitVec.ofBool scaled) rn rt
  | .ldrshWUnsignedOffset imm12 rn rt => .ldstUnsigned 1#2 3#2 imm12 rn rt
  | .ldurshW imm9 rn rt => .ldstSigned 1#2 3#2 imm9 0#2 rn rt
  | .ldrshWPostIndex imm9 rn rt => .ldstSigned 1#2 3#2 imm9 1#2 rn rt
  | .ldrshWPreIndex imm9 rn rt => .ldstSigned 1#2 3#2 imm9 3#2 rn rt
  | .ldrshWRegisterOffset rm ext scaled rn rt => .ldstRegister 1#2 3#2 rm (extendBits ext) (BitVec.ofBool scaled) rn rt
  | .ldrswUnsignedOffset imm12 rn rt => .ldstUnsigned 2#2 2#2 imm12 rn rt
  | .ldursw imm9 rn rt => .ldstSigned 2#2 2#2 imm9 0#2 rn rt
  | .ldrswPostIndex imm9 rn rt => .ldstSigned 2#2 2#2 imm9 1#2 rn rt
  | .ldrswPreIndex imm9 rn rt => .ldstSigned 2#2 2#2 imm9 3#2 rn rt
  | .ldrswRegisterOffset rm ext scaled rn rt => .ldstRegister 2#2 2#2 rm (extendBits ext) (BitVec.ofBool scaled) rn rt
  | .stpWOffset imm7 rt2 rn rt => .ldstPair 0#2 2#2 0#1 imm7 rt2 rn rt
  | .stpWPostIndex imm7 rt2 rn rt => .ldstPair 0#2 1#2 0#1 imm7 rt2 rn rt
  | .stpWPreIndex imm7 rt2 rn rt => .ldstPair 0#2 3#2 0#1 imm7 rt2 rn rt
  | .ldpWOffset imm7 rt2 rn rt => .ldstPair 0#2 2#2 1#1 imm7 rt2 rn rt
  | .ldpWPostIndex imm7 rt2 rn rt => .ldstPair 0#2 1#2 1#1 imm7 rt2 rn rt
  | .ldpWPreIndex imm7 rt2 rn rt => .ldstPair 0#2 3#2 1#1 imm7 rt2 rn rt
  | .stpXOffset imm7 rt2 rn rt => .ldstPair 2#2 2#2 0#1 imm7 rt2 rn rt
  | .stpXPostIndex imm7 rt2 rn rt => .ldstPair 2#2 1#2 0#1 imm7 rt2 rn rt
  | .stpXPreIndex imm7 rt2 rn rt => .ldstPair 2#2 3#2 0#1 imm7 rt2 rn rt
  | .ldpXOffset imm7 rt2 rn rt => .ldstPair 2#2 2#2 1#1 imm7 rt2 rn rt
  | .ldpXPostIndex imm7 rt2 rn rt => .ldstPair 2#2 1#2 1#1 imm7 rt2 rn rt
  | .ldpXPreIndex imm7 rt2 rn rt => .ldstPair 2#2 3#2 1#1 imm7 rt2 rn rt
  | .ldrWLiteral imm19 rt => .ldLiteral 0#2 imm19 rt
  | .ldrXLiteral imm19 rt => .ldLiteral 1#2 imm19 rt
  | .ldrswLiteral imm19 rt => .ldLiteral 2#2 imm19 rt
  | .ldxr size rn rt => .ldstExclusive (sizeBits size) 0#1 1#1 0#1 0b11111#5 0#1 0b11111#5 rn rt
  | .ldaxr size rn rt => .ldstExclusive (sizeBits size) 0#1 1#1 0#1 0b11111#5 1#1 0b11111#5 rn rt
  | .stxr size rs rn rt => .ldstExclusive (sizeBits size) 0#1 0#1 0#1 rs 0#1 0b11111#5 rn rt
  | .stlxr size rs rn rt => .ldstExclusive (sizeBits size) 0#1 0#1 0#1 rs 1#1 0b11111#5 rn rt
  | .ldar size rn rt => .ldstExclusive (sizeBits size) 1#1 1#1 0#1 0b11111#5 1#1 0b11111#5 rn rt
  | .stlr size rn rt => .ldstExclusive (sizeBits size) 1#1 0#1 0#1 0b11111#5 1#1 0b11111#5 rn rt
  | .cas size acq rs rel rn rt => .ldstExclusive (sizeBits size) 1#1 (BitVec.ofBool acq) 1#1 rs (BitVec.ofBool rel) 0b11111#5 rn rt
  | .swp size acq rel rs rn rt => .atomic (sizeBits size) (BitVec.ofBool acq) (BitVec.ofBool rel) rs 1#1 0b000#3 rn rt
  | .ldadd size acq rel rs rn rt => .atomic (sizeBits size) (BitVec.ofBool acq) (BitVec.ofBool rel) rs 0#1 0b000#3 rn rt
  | .ldclr size acq rel rs rn rt => .atomic (sizeBits size) (BitVec.ofBool acq) (BitVec.ofBool rel) rs 0#1 0b001#3 rn rt
  | .ldeor size acq rel rs rn rt => .atomic (sizeBits size) (BitVec.ofBool acq) (BitVec.ofBool rel) rs 0#1 0b010#3 rn rt
  | .ldset size acq rel rs rn rt => .atomic (sizeBits size) (BitVec.ofBool acq) (BitVec.ofBool rel) rs 0#1 0b011#3 rn rt
  | .ldsmax size acq rel rs rn rt => .atomic (sizeBits size) (BitVec.ofBool acq) (BitVec.ofBool rel) rs 0#1 0b100#3 rn rt
  | .ldsmin size acq rel rs rn rt => .atomic (sizeBits size) (BitVec.ofBool acq) (BitVec.ofBool rel) rs 0#1 0b101#3 rn rt
  | .ldumax size acq rel rs rn rt => .atomic (sizeBits size) (BitVec.ofBool acq) (BitVec.ofBool rel) rs 0#1 0b110#3 rn rt
  | .ldumin size acq rel rs rn rt => .atomic (sizeBits size) (BitVec.ofBool acq) (BitVec.ofBool rel) rs 0#1 0b111#3 rn rt
  | .ldapr size rn rt => .atomic (sizeBits size) 1#1 0#1 0b11111#5 1#1 0b100#3 rn rt

/-- The word of an instruction (R94 to R118, R372). -/
def encode (i : Instr) : BitVec 32 := i.toFormat.toWord

/-! ## The host's reading of a table row -/

/-- The bytes of an instruction word as the hardware stores it, lowest address first (R69). -/
def bytesOfWord (w : BitVec 32) : List Byte :=
  [w.extractLsb' 0 8, w.extractLsb' 8 8, w.extractLsb' 16 8, w.extractLsb' 24 8]

/-- The word whose low `nbits` bits are those of `w` and whose other bits are 0. -/
def tableWord (nbits w : Nat) : BitVec 32 := BitVec.ofNat 32 (w % 2 ^ nbits)

/-- The instruction the decoder reads from a row of spec/opcode_table.json whose bits are `w`. -/
def decodeTableWord (nbits w : Nat) : Option Instr :=
  match (decodeBytes (bytesOfWord (tableWord nbits w))).1 with
  | .instr i => some i
  | .rejected _ => none

end Sys2Proof
end

