-- ==== Sys2Proof/Config.lean ====
section
/-! DEFINITION. What a machine of this kind fixes: the parameters of spec/00_scope.md R7, as plain
data that State carries and no step changes, and the values the spec leaves open, as constants
without a body. -/

namespace Sys2Proof

/-! ## Parameters (R7) -/

/-- The addresses `base`, ..., `base + size - 1`. -/
structure Range where
  base : Nat
  size : Nat
  deriving DecidableEq, Repr

/-- An A64 optional feature: those R2 names, and any other by a number (R53). -/
inductive Feature where
  | fp16
  | sve
  | pacAB
  | rcpc
  | lse
  | crc32
  | other (n : Nat)
  deriving DecidableEq, Repr

/-- What the host does at an `HLT` (R392), by the service the immediate stands for. `words` is the
length of the parameter block behind the instruction in 4-byte words: R392 gives no length, and whole
words are DEDUCED from R464 (log 12). The feature services read their list from that block. -/
inductive HostService where
  /-- `kUnreachable`. -/
  | unreachable
  /-- `kTrace`. -/
  | trace (words : Nat)
  /-- `kLog`. -/
  | log (words : Nat)
  /-- `kPrintf`. -/
  | printf (words : Nat)
  /-- `kRuntimeCall`. -/
  | runtimeCall (words : Nat)
  /-- `kSetCPUFeatures`. -/
  | setFeatures
  /-- `kEnableCPUFeatures`. -/
  | enableFeatures
  /-- `kDisableCPUFeatures`. -/
  | disableFeatures
  /-- `kSaveCPUFeatures`. DESIGN CHOICE: R392 gives its block no length; a parameter (log 12). -/
  | saveFeatures (words : Nat)
  /-- `kRestoreCPUFeatures`. DESIGN CHOICE: R392 gives its block no length; a parameter (log 12). -/
  | restoreFeatures (words : Nat)
  /-- A service R392 does not name: any answer to the immediate and the state, Abort included. -/
  | unnamed
  deriving DecidableEq, Repr

/-- How a feature list stands in a parameter block: R392 names the offset and the sentinel 'None' and
numbers neither, so the layout is a parameter (log 12). -/
structure FeatureListLayout where
  /-- `kConfigureCPUFeaturesListOffset`, in bytes from the HLT. -/
  offset : Nat
  /-- Bytes of an entry. -/
  entryBytes : Nat
  /-- The entry of the feature 'None', which ends a list. -/
  none : Nat
  /-- The entries of the features R2 names; any other entry `n` is `Feature.other n`. -/
  codes : List (Nat × Feature)
  /-- How many entries the host reads before it gives up and aborts. -/
  limit : Nat
  deriving DecidableEq, Repr

/-- The parameters of R7 that are plain data. -/
structure Platform where
  /-- `ENTRY`. -/
  entry : Word
  /-- `STACK_TOP`. -/
  stackTop : Word
  /-- `STACK_SIZE`: bytes of the stack buffer. That it counts the two pads is a DESIGN CHOICE (log 1). -/
  stackSize : Nat
  /-- `STACK_PAD`: bytes of each pad. -/
  stackPad : Nat
  /-- `VL`, in bits. -/
  vl : Nat
  /-- `NZCV_RESET`, as N:Z:C:V. -/
  nzcvReset : BitVec 4
  /-- `FPCR_RESET`. -/
  fpcrReset : BitVec 32
  /-- The byte ranges of the memory image: `MemValid` holds of an access whose bytes lie in them. -/
  memory : List Range
  /-- The ranges where `GuardedPage` holds. -/
  guarded : List Range
  /-- `HostTrap`: the service of each immediate; one that is not listed aborts. -/
  hostServices : List (BitVec 16 × HostService)
  /-- `HostTrap`: how a feature list is laid out. -/
  featureList : FeatureListLayout
  /-- `Features`. -/
  features : List Feature
  deriving DecidableEq, Repr

/-- The stack buffer without its pads (R41): SP starts at its end. R41 and D10 do not say whether STACK_SIZE
counts the pads; that it counts both is a DESIGN CHOICE (log 1). -/
def Platform.stack (p : Platform) : Range :=
  { base := p.stackTop.toNat + 2 * p.stackPad - p.stackSize, size := p.stackSize - 2 * p.stackPad }

/-- The constraints of R7, R41 and R484 on the parameters: VL a legal length, the stack aligned and
inside the address space. -/
def Platform.wf (p : Platform) : Bool :=
  decide (128 ≤ p.vl ∧ p.vl ≤ 2048 ∧ p.vl % 128 = 0) && decide (p.stackTop.toNat % 16 = 0) &&
    decide (2 * p.stackPad ≤ p.stackSize) &&
    decide (p.stackSize ≤ p.stackTop.toNat + p.stackPad)

/-- The machine that State.reset is: the spec's own defaults (flags and FPCR zero, no guarded page,
every HLT an abort), the features R2 names, and, where the spec leaves the parameter open, a choice
(log 1). -/
def Platform.default : Platform :=
  { entry := 0x1000#64
    stackTop := 0x8000#64
    stackSize := 0x2000
    stackPad := 0x100
    vl := 128
    nzcvReset := 0#4
    fpcrReset := 0#32
    memory := [{ base := 0, size := 2 ^ 64 }]
    guarded := []
    hostServices := []
    featureList :=
      { offset := 4
        entryBytes := 1
        none := 0
        codes := [(1, .fp16), (2, .sve), (3, .pacAB), (4, .rcpc), (5, .lse), (6, .crc32)]
        limit := 255 }
    features := [.fp16, .sve, .pacAB, .rcpc, .lse, .crc32] }

/-! ## The random number generator (R36) -/

/-- "three 16-bit words of state". -/
structure RndrState where
  word0 : BitVec 16
  word1 : BitVec 16
  word2 : BitVec 16
  deriving DecidableEq, Repr, Inhabited

/-- `RndrNext`: the value a read of RNDR or RNDRRS returns, and the state it leaves (R36, R383). -/
opaque Config.rndrNext : RndrState → Word × RndrState

/-- `RNDR_SEED`. -/
opaque Config.rndrSeed : RndrState

/-! ## Reset values the spec does not give (R50) -/

/-- `VREG_RESET(reg)`; a register takes the low VL bits. -/
opaque Config.vregReset : Nat → BitVec 2048

/-- `PREG_RESET(reg)`; a register takes the low VL/8 bits. -/
opaque Config.pregReset : Nat → BitVec 256

/-! ## Free values: each is applied to State's counter, which its use advances (log 2) -/

/-- Contents of general registers a host service leaves (R392). -/
opaque Config.freeWord : Nat → Word

/-- Contents of vector registers, and the bits of one that the spec leaves open (R361, R392, R409). -/
opaque Config.freeVector : Nat → BitVec 2048

/-- Contents of predicate registers, and the lanes of WHILE after a wrap (R392, U9). -/
opaque Config.freePredicate : Nat → BitVec 256

/-- Contents of memory after a runtime call (R392). -/
opaque Config.freeMemory : Nat → List Host.Cell

/-- The feature set after a restore (R52, R392, log 4). -/
opaque Config.freeFeatures : Nat → List Feature

/-- The payload and sign of a NaN that the spec does not fix: the half-precision corner cases (U8). -/
opaque Config.freeNaN : Nat → BitVec 16

end Sys2Proof
end

