-- ==== Sys2Proof/Machine/State.lean ====
section
/-! DEFINITION. The state of the machine, as plain data (spec/10_state.md), the reasons a step stops
(spec/60_exceptions.md R453), and the state after reset (R46 to R51). -/

namespace Sys2Proof.Machine

/-! ## Kinds of state -/

/-- The four condition flags (R32). -/
structure Nzcv where
  n : Bool
  z : Bool
  c : Bool
  v : Bool
  deriving DecidableEq, Repr

/-- The values of BType (R44). -/
inductive BType where
  | default
  | branchAndLink
  | branchFromUnguardedOrToIP
  | branchFromGuardedNotToIP
  deriving DecidableEq, Repr

/-- An exclusive monitor's byte interval, `addr`, ..., `addr + size - 1` (R42, R75). -/
structure Interval where
  addr : Nat
  size : Nat
  deriving DecidableEq, Repr

/-! ## Why a step stops -/

/-- "The word or command" that a fault or a refusal records (R453): a word that decodes to no
instruction, an instruction, or a command the decoder handed over. -/
inductive Command where
  | word (w : BitVec 32)
  | instr (i : Instr)
  | native (c : NativeCmd)
  deriving DecidableEq, Repr

/-- The fault categories of R453, each with the address of the faulting instruction and the
category's info (R452). A fault of the hardware is final, so stopping here is what the hardware
does: safe. -/
inductive Fault where
  /-- The word selects no instruction, or the command's fields break its format. Raised by the
  decode step and by a meaning given an ill-formed instruction (R455). Safe. -/
  | unallocated (pc : Word) (word : BitVec 32)
  /-- A real instruction without a rule. Raised by the loop, by SYS for the DC operations that write
  memory, and by native commands (R456). Safe. -/
  | unimplemented (pc : Word) (command : Command)
  /-- UDF executed. Raised by UDF (R457). Safe. -/
  | udf (pc : Word) (imm16 : BitVec 16)
  /-- SP base not 16-byte aligned, or an atomic access across a 16-byte line; records the address.
  Raised by loads and stores (R458). Safe. -/
  | alignment (pc : Word) (addr : Word)
  /-- A failed pointer authentication. Raised by nothing: every instruction that could is refused
  (R460). Safe. -/
  | authenticationFailure (pc : Word) (pointer : Word)
  /-- A landing in a guarded page that the instruction does not permit. Raised by the loop (R461).
  Safe. -/
  | btiViolation (pc : Word) (current : BType)
  /-- HLT answered by Abort. Raised by HLT (R462). Safe. -/
  | hostTrapAbort (pc : Word) (imm16 : BitVec 16)
  /-- An access outside the memory image. Raised by the fetch and by loads and stores (R463). Safe. -/
  | address (pc : Word) (addr : Word)
  /-- PC not a multiple of 4. Raised by the fetch (R464). Safe. -/
  | pcAlignment (pc : Word)
  deriving DecidableEq, Repr

/-- The instructions and operand choices the spec refuses by name (R465), and a step that does not
exist. Each records PC and, as R453 asks of Refused, the command. The hardware goes on where the model
stops: safe. -/
inductive Refusal where
  /-- An instruction whose meaning is not written. Raised by an arm of exec. Safe. -/
  | notModelled (mnemonic : String)
  /-- Pointer authentication (R126, R310, R337, R371, R385). Raised by the loop, HINT and native
  commands. Safe. -/
  | pointerAuthentication (pc : Word) (name : String) (command : Command)
  /-- A pre- or post-indexed access whose base is also a transfer register (R358, U3). Raised by
  loads and stores. Safe. -/
  | writebackOverlap (pc : Word) (command : Command)
  /-- A pair load with Rt = Rt2 (R359, U4). Raised by pair loads. Safe. -/
  | loadPairSameRegister (pc : Word) (command : Command)
  /-- A store-exclusive whose Rs is Rt, Rt2 or Rn (R364, U5). Raised by store-exclusives. Safe. -/
  | storeExclusiveOverlap (pc : Word) (command : Command)
  /-- Exited and faulted machines have no next step (R49). Raised by the loop. Safe. -/
  | notRunning
  deriving DecidableEq, Repr

/-- The status of the machine (R49, R452). A refusal is the category Refused of R453. -/
inductive Status where
  | running
  | exited
  | faulted (f : Fault)
  | refused (r : Refusal)
  deriving DecidableEq, Repr

/-! ## The state -/

/-- All the state of the machine. -/
structure State where
  /-- X0 to X30 (R20, R21). -/
  x : Vector Word 31
  /-- SP (R20). -/
  sp : Word
  /-- PC (R30). -/
  pc : Word
  /-- `pc_modified` (R31). -/
  pcModified : Bool
  /-- The condition flags (R32). -/
  nzcv : Nzcv
  /-- FPCR, all 32 written bits (R34, R382). -/
  fpcr : BitVec 32
  /-- The generator behind RNDR and RNDRRS (R36). -/
  rndr : RndrState
  /-- Z0 to Z31, and V0 to V31 in their low 128 bits; the bits above VL are zero (R38). -/
  z : Vector (BitVec 2048) 32
  /-- P0 to P15; the bits above VL/8 are zero (R39). -/
  p : Vector (BitVec 256) 16
  /-- The memory image: what no cell lists is zero (R60, log 3). -/
  mem : List Host.Cell
  /-- The local exclusive monitor (R42). -/
  localMonitor : Option Interval
  /-- The global exclusive monitor (R43). -/
  globalMonitor : Option Interval
  /-- The current BType (R44). -/
  btype : BType
  /-- The next BType (R44). -/
  btypeNext : BType
  /-- The `movprfx` latch (R45). -/
  movprfx : Bool
  /-- The status (R49). -/
  status : Status
  /-- The feature set (R53). -/
  features : List Feature
  /-- The model's own: how many free values have been drawn (log 2). -/
  freeCount : Nat
  /-- The parameters of this machine (R7). -/
  platform : Platform
  deriving DecidableEq, Repr

/-! ## The open parameter -/

/-- `HostTrap(imm16, state)` of a service R392 does not name: `none` is Abort, else a state to take
registers, memory and features from, and the length of the parameter block in words (R7, R392). -/
opaque openHostTrap : BitVec 16 → State → Option (State × Nat)

/-! ## Reset -/

/-- The flags a four-bit string N:Z:C:V stands for (R123). -/
def Nzcv.ofBits (v : BitVec 4) : Nzcv :=
  { n := v.getLsbD 3, z := v.getLsbD 2, c := v.getLsbD 1, v := v.getLsbD 0 }

/-- `XREG_RESET` (R46). -/
def xregReset : Word := 0x0BADBEEF#64

/-- The vector registers after reset: `VREG_RESET`, cut to VL bits (R50). -/
def vectorsAtReset (vl : Nat) : Vector (BitVec 2048) 32 :=
  Vector.ofFn fun i => Config.vregReset i.val &&& (BitVec.allOnes vl).setWidth 2048

/-- The predicate registers after reset: `PREG_RESET`, cut to VL/8 bits (R50). -/
def predicatesAtReset (vl : Nat) : Vector (BitVec 256) 16 :=
  Vector.ofFn fun i => Config.pregReset i.val &&& (BitVec.allOnes (vl / 8)).setWidth 256

/-- The state of a machine with parameters `p` right after reset, with PC at `ENTRY`, where Run puts
it (R46 to R51, R483, log 5). -/
def State.resetWith (p : Platform) : State :=
  { x := Vector.ofFn fun i => if i.val = 30 then endOfSimAddress else xregReset
    sp := p.stackTop
    pc := p.entry
    pcModified := false
    nzcv := Nzcv.ofBits p.nzcvReset
    fpcr := p.fpcrReset
    rndr := Config.rndrSeed
    z := vectorsAtReset p.vl
    p := predicatesAtReset p.vl
    mem := []
    localMonitor := none
    globalMonitor := none
    btype := .default
    btypeNext := .default
    movprfx := false
    status := .running
    features := p.features
    freeCount := 0
    platform := p }

/-- The machine right after reset. -/
def State.reset : State := State.resetWith Platform.default

end Sys2Proof.Machine
end

