-- ==== Sys2Proof/Machine/Flags.lean ====
section
/-! DEFINITION. Every flag computation: AddWithCarry and the condition test
(spec/40_alu_primitives.md R131, R145), the logical flags (spec/42_logical_move.md R200), the NZCV
register (spec/10_state.md R33), and the flags of FP compares, predicates and CTERM
(spec/49_fp_simd_sve.md R406, R407, R423, R428). -/

namespace Sys2Proof.Machine

/-- `AddWithCarry(n, left, right, carry_in)`: the result and the flags N', Z', C', V' (R131). -/
def addWithCarry (n : Nat) (left right : BitVec n) (carry : Bool) : BitVec n × Nzcv :=
  let c := carry.toNat
  let result := BitVec.ofNat n (left.toNat + right.toNat + c)
  let max := 2 ^ n - 1
  (result,
    { n := result.msb
      z := decide (result = 0#n)
      c := decide (left.toNat > max - c) || decide (max - c - left.toNat < right.toNat)
      v := decide (left.msb = right.msb) && decide (left.msb ≠ result.msb) })

/-- The datapath of the add/subtract family (R170). -/
def addSub (n : Nat) (op1 op2 : BitVec n) (sub carry : Bool) : BitVec n × Nzcv :=
  addWithCarry n op1 (if sub then ~~~op2 else op2) carry

/-- Flags of ANDS and BICS (R200). -/
def logicalFlags (n : Nat) (result : BitVec n) : Nzcv :=
  { n := result.msb, z := decide (result = 0#n), c := false, v := false }

/-- `ConditionHolds(cond)` (R145). -/
def conditionHolds (cond : Cond) (f : Nzcv) : Bool :=
  let base :=
    match (cond.extractLsb' 1 3).toNat with
    | 0 => f.z
    | 1 => f.c
    | 2 => f.n
    | 3 => f.v
    | 4 => f.c && !f.z
    | 5 => f.n == f.v
    | 6 => f.n == f.v && !f.z
    | _ => true
  if cond.getLsbD 0 && cond != 0b1111#4 then !base else base

/-- The flags as the four-bit string N:Z:C:V (R9). -/
def Nzcv.toBits (f : Nzcv) : BitVec 4 :=
  BitVec.ofBool f.n ++ BitVec.ofBool f.z ++ BitVec.ofBool f.c ++ BitVec.ofBool f.v

/-- NZCV as a system register reads (R33, R380). -/
def Nzcv.toRegister (f : Nzcv) : Word := (f.toBits ++ 0#28).setWidth 64

/-- The flags a write of NZCV leaves: the other bits are ignored (R33, R381). -/
def Nzcv.ofRegister (v : Word) : Nzcv := Nzcv.ofBits (v.extractLsb' 28 4)

/-- All four flags clear (R383). -/
def Nzcv.clear : Nzcv := { n := false, z := false, c := false, v := false }

/-- How two FP operands compare (R406). -/
inductive FpRelation where
  | equal
  | less
  | greater
  | unordered
  deriving DecidableEq, Repr

/-- The flags of an FP compare (R406). -/
def fpCompareFlags : FpRelation → Nzcv
  | .equal => Nzcv.ofBits 0b0110#4
  | .less => Nzcv.ofBits 0b1000#4
  | .greater => Nzcv.ofBits 0b0010#4
  | .unordered => Nzcv.ofBits 0b0011#4

/-- The flags of FJCVTZS: Z if the conversion was exact, the others clear (R407). -/
def jcvtFlags (exact : Bool) : Nzcv := { n := false, z := exact, c := false, v := false }

/-- `Elem(p, L, k)` (R422). -/
def predElem (p : BitVec 256) (l k : Nat) : Bool := p.getLsbD (l * k)

/-- The first of the elements `0 .. e - 1` that is active, if any. -/
def firstActive (g : BitVec 256) (l e : Nat) : Option Nat := (List.range e).find? fun k => predElem g l k

/-- The last of the elements `0 .. e - 1` that is active, if any. -/
def lastActive (g : BitVec 256) (l : Nat) : (e : Nat) → Option Nat
  | 0 => none
  | k + 1 => if predElem g l k then some k else lastActive g l k

/-- `PTestFlags(g, p, L)` over `e` elements (R423). -/
def ptestFlags (g p : BitVec 256) (l e : Nat) : Nzcv :=
  { n := match firstActive g l e with
      | none => false
      | some k => predElem p l k
    z := !(List.range e).any fun k => predElem g l k && predElem p l k
    c := match lastActive g l e with
      | none => true
      | some k => !predElem p l k
    v := false }

/-- The flags of CTERMEQ and CTERMNE: N and V are written, C and Z kept (R428). -/
def ctermFlags (term : Bool) (f : Nzcv) : Nzcv :=
  if term then { f with n := true, v := false } else { f with n := false, v := !f.c }

end Sys2Proof.Machine
end

