-- ==== Sys2Proof/Machine/Memory.lean ====
section
/-! DEFINITION. The memory image: a list of cells in one canonical form, read and written a byte at a
time, wider accesses little-endian (spec/20_memory.md R60 to R63). -/

namespace Sys2Proof.Machine

/-- Cells from address `lo` on: addresses strictly rising, inside the address space, no cell that
holds what an unlisted address reads as. -/
def Memory.wfFrom (lo : Nat) : List Host.Cell → Bool
  | [] => true
  | (a, b) :: m => decide (lo ≤ a ∧ a < 2 ^ 64 ∧ b ≠ 0#8) && Memory.wfFrom (a + 1) m

/-- The canonical form: equal memories are equal lists. -/
def Memory.wf (m : List Host.Cell) : Bool := Memory.wfFrom 0 m

/-- The byte an unlisted address reads as. DESIGN CHOICE: the spec leaves the image to the host
(log 3). -/
def Memory.unlisted : Byte := 0#8

/-- The byte at an address. -/
def Memory.get : List Host.Cell → Nat → Byte
  | [], _ => Memory.unlisted
  | (a, b) :: m, k => if a = k then b else Memory.get m k

/-- The image with one byte changed, in canonical form. -/
def Memory.set : List Host.Cell → Nat → Byte → List Host.Cell
  | [], k, v => if v = Memory.unlisted then [] else [(k, v)]
  | (a, b) :: m, k, v =>
    if k < a then if v = Memory.unlisted then (a, b) :: m else (k, v) :: (a, b) :: m
    else if k = a then if v = Memory.unlisted then m else (k, v) :: m
    else (a, b) :: Memory.set m k v

/-- The address of byte `k` of an access (R62; sums are modulo 2^64). -/
def byteAddress (addr : Word) (k : Nat) : Nat := (addr + BitVec.ofNat 64 k).toNat

/-- `MemRead(addr, n)`: byte `k` of the value is the byte at `addr + k` (R61, R62). -/
def Memory.read (m : List Host.Cell) (addr : Word) : (n : Nat) → BitVec (8 * n)
  | 0 => 0#0
  | k + 1 => (Memory.get m (byteAddress addr k) ++ Memory.read m addr k).cast (by omega)

/-- `MemWrite(addr, n, v)`: byte `k` of `v` goes to `addr + k` (R63). -/
def Memory.write {w : Nat} (m : List Host.Cell) (addr : Word) (v : BitVec w) : (n : Nat) → List Host.Cell
  | 0 => m
  | k + 1 => Memory.set (Memory.write m addr v k) (byteAddress addr k) (v.extractLsb' (8 * k) 8)

/-- The canonical image of any list of cells, addresses taken modulo 2^64. -/
def Memory.ofCells : List Host.Cell → List Host.Cell
  | [] => []
  | (a, b) :: m => Memory.set (Memory.ofCells m) (a % 2 ^ 64) b

end Sys2Proof.Machine
end

