-- ==== Sys2Proof/Machine/Ops.lean ====
section
/-! DEFINITION. The named operations over the state: registers (spec/10_state.md R22 to R27), PC
(R321), memory and its checks (spec/20_memory.md R62 to R73), monitors (R75 to R80), free values, and
the one operation by which every fault is raised (spec/60_exceptions.md R452). -/

namespace Sys2Proof.Machine

/-- What an instruction answers. -/
abbrev Result := Host.Outcome State Fault Refusal

/-! ## Faults and refusals -/

/-- `raise Category(info)`: the machine stops, the fault records PC, and nothing of the instruction
takes effect (R452). There is no handler and no return (R450, log 6). -/
def State.raise (s : State) (category : Word → Fault) : Result := .fault (category s.pc)

/-- A refusal by name, recording PC where the reason does (R465). -/
def State.refuse (s : State) (reason : Word → Refusal) : Result := .refused (reason s.pc)

/-- The machine a stop leaves: its status says why, everything else stands (R452). -/
def State.settle (s : State) : Result → State
  | .next t => t
  | .fault f => { s with status := .faulted f }
  | .refused r => { s with status := .refused r }

/-- A command whose fields break its format is unallocated (R91, R455). -/
def whenWellFormed (i : Instr) (s : State) (k : Result) : Result :=
  if i.wellFormed then k else s.raise (.unallocated · (encode i))

/-! ## General registers and SP -/

/-- `X[i]`. -/
def State.xReg (s : State) (i : Nat) : Word := s.x[i]?.getD 0#64

/-- `Rz(n, i)` (R24). -/
def State.rz (s : State) (n : Nat) (i : RegNum) : BitVec n :=
  if i = 31#5 then 0#n else (s.xReg i.toNat).setWidth n

/-- `Rsp(n, i)` (R26). -/
def State.rsp (s : State) (n : Nat) (i : RegNum) : BitVec n :=
  if i = 31#5 then s.sp.setWidth n else (s.xReg i.toNat).setWidth n

/-- `WrRz(n, i, v)`, `n` at most 64 (R22, R23, R25). -/
def State.wrRz (s : State) {n : Nat} (i : RegNum) (v : BitVec n) : State :=
  if i = 31#5 then s else { s with x := s.x.setIfInBounds i.toNat (v.setWidth 64) }

/-- `WrRsp(n, i, v)` (R27). -/
def State.wrRsp (s : State) {n : Nat} (i : RegNum) (v : BitVec n) : State :=
  if i = 31#5 then { s with sp := v.setWidth 64 }
  else { s with x := s.x.setIfInBounds i.toNat (v.setWidth 64) }

/-- A write of all four flags (R32). -/
def State.setFlags (s : State) (f : Nzcv) : State := { s with nzcv := f }

/-! ## PC -/

/-- `pc <- target` (R321). -/
def State.branchTo (s : State) (target : Word) : State := { s with pc := target, pcModified := true }

/-- The link register takes the address of the next sequential instruction (R331, R335). -/
def State.link (s : State) : State := s.wrRz 30#5 (s.pc + 4#64)

/-- The next BType (R338). -/
def State.setBTypeNext (s : State) (b : BType) : State := { s with btypeNext := b }

/-! ## Memory -/

/-- Whether a range holds an address. -/
def rangesHold (rs : List Range) (a : Nat) : Bool :=
  rs.any fun r => decide (r.base ≤ a ∧ a < r.base + r.size)

/-- Whether ranges hold the addresses `a`, ..., `a + n - 1`. -/
def rangesHoldAll (rs : List Range) (a : Nat) : (n : Nat) → Bool
  | 0 => true
  | k + 1 => rangesHold rs (a + k) && rangesHoldAll rs a k

/-- `MemValid(addr, n)`: false for a range that passes the end of the address space (R73). -/
def State.memValid (s : State) (addr : Word) (n : Nat) : Bool :=
  decide (addr.toNat + n ≤ 2 ^ 64) && rangesHoldAll s.platform.memory addr.toNat n

/-- `GuardedPage(addr)` (R339). -/
def State.guardedPage (s : State) (addr : Word) : Bool := rangesHold s.platform.guarded addr.toNat

/-- The byte at an address. -/
def State.byteAt (s : State) (a : Nat) : Byte := Memory.get s.mem a

/-- `MemRead(addr, n)` (R62). -/
def State.memRead (s : State) (addr : Word) (n : Nat) : BitVec (8 * n) := Memory.read s.mem addr n

/-- `MemWrite(addr, n, v)` (R63). -/
def State.memWrite (s : State) {w : Nat} (addr : Word) (n : Nat) (v : BitVec w) : State :=
  { s with mem := Memory.write s.mem addr v n }

/-- The word fetched at PC, little-endian (R69). -/
def State.fetchWord (s : State) : BitVec 32 := s.memRead s.pc 4

/-- The SP base check (R353). -/
def State.checkSp (s : State) (rn : RegNum) (k : Result) : Result :=
  if rn = 31#5 ∧ s.sp.toNat % 16 ≠ 0 then s.raise (.alignment · s.sp) else k

/-- The 16-byte-line check of the atomic accesses (R67). -/
def State.checkLine (s : State) (addr : Word) (size : Nat) (k : Result) : Result :=
  if addr.toNat % 16 + size > 16 then s.raise (.alignment · addr) else k

/-- Address validity of an access (R73, R354). -/
def State.checkValid (s : State) (addr : Word) (n : Nat) (k : Result) : Result :=
  if s.memValid addr n then k else s.raise (.address · addr)

/-! ## Exclusive monitors -/

/-- A monitor's interval fully covers the query (R75). -/
def covers (monitor : Option Interval) (addr : Word) (size : Nat) : Bool :=
  match monitor with
  | none => false
  | some m => decide (m.addr ≤ addr.toNat ∧ addr.toNat + size ≤ m.addr + m.size)

/-- `mark_exclusive(addr, size)` on both monitors (R75, R76, R77). -/
def State.markExclusive (s : State) (addr : Word) (size : Nat) : State :=
  { s with
    localMonitor := some { addr := addr.toNat, size := size }
    globalMonitor := some { addr := addr.toNat, size := size } }

/-- `clear()` on the local monitor (R75, R80). -/
def State.clearLocal (s : State) : State := { s with localMonitor := none }

/-- A non-exclusive store: the local monitor is cleared (R79, R356). -/
def State.store (s : State) {w : Nat} (addr : Word) (n : Nat) (v : BitVec w) : State :=
  (s.memWrite addr n v).clearLocal

/-! ## Vector and predicate registers -/

/-- Ones in the VL bits of a vector register (R38). -/
def State.zMask (s : State) : BitVec 2048 := (BitVec.allOnes s.platform.vl).setWidth 2048

/-- Ones in the VL/8 bits of a predicate register (R39). -/
def State.pMask (s : State) : BitVec 256 := (BitVec.allOnes (s.platform.vl / 8)).setWidth 256

/-- `Z[i]`, and `V[i]` in its low 128 bits. -/
def State.zReg (s : State) (i : RegNum) : BitVec 2048 := s.z[i.toNat]?.getD 0#2048

/-- `P[i]`. -/
def State.pReg (s : State) (i : BitVec 4) : BitVec 256 := s.p[i.toNat]?.getD 0#256

/-- A write of all VL bits of a vector register. -/
def State.wrZ (s : State) (i : RegNum) (v : BitVec 2048) : State :=
  { s with z := s.z.setIfInBounds i.toNat (v &&& s.zMask) }

/-- A write of all VL/8 bits of a predicate register. -/
def State.wrP (s : State) (i : BitVec 4) (v : BitVec 256) : State :=
  { s with p := s.p.setIfInBounds i.toNat (v &&& s.pMask) }

/-! ## Free values (log 2) -/

/-- The state after a free value has been drawn. -/
def State.drawn (s : State) : State := { s with freeCount := s.freeCount + 1 }

/-- The state after `n` free values have been drawn. -/
def State.drawnBy (s : State) (n : Nat) : State := { s with freeCount := s.freeCount + n }

/-! ## Bytes of an access size (R372) -/

/-- 1, 2, 4 or 8. -/
def accessBytes : AccessSize → Nat
  | .b => 1
  | .h => 2
  | .w => 4
  | .x => 8

/-- The width of the general register an access of this size loads: 32 for B, H and W, 64 for X
(R366). -/
def accessRegWidth : AccessSize → Nat
  | .b | .h | .w => 32
  | .x => 64

end Sys2Proof.Machine
end

