-- ==== Sys2Proof/Machine/Operands.lean ====
section
/-! DEFINITION. Every operand form: the second operands of the data-processing instructions
(spec/41_addsub.md, spec/42_logical_move.md), branch targets (spec/46_pcrel_branch.md) and the
addresses of loads and stores (spec/47_loadstore.md R351, R352). -/

namespace Sys2Proof.Machine

/-! ## Data processing -/

/-- The shifted-register operand; a well-formed instruction keeps the amount below `n` (R133, R177). -/
def State.shiftedOperand (s : State) (n : Nat) (rm : RegNum) (ty : ShiftType) (imm6 : BitVec 6) : BitVec n :=
  shift n (s.rz n rm) ty imm6.toNat

/-- The extended-register operand; a well-formed instruction keeps the shift at most 4 (R138, R181). -/
def State.extendedOperand (s : State) (n : Nat) (rm : RegNum) (ty : ExtendType) (imm3 : BitVec 3) : BitVec n :=
  extend n (s.rz n rm) ty imm3.toNat

/-- The count of a variable shift: the register modulo `n` (R283). -/
def State.shiftCount (s : State) (n : Nat) (rm : RegNum) : Nat := (s.rz n rm).toNat % n

/-- The move-wide immediate at its position (R117, R214). -/
def moveWideImmediate (n : Nat) (hw : BitVec 2) (imm16 : BitVec 16) : BitVec n :=
  imm16.setWidth n <<< moveWidePos hw

/-! ## Branches -/

/-- The target of a PC-relative branch or literal (R119, R360). -/
def State.pcOffset (s : State) {k : Nat} (imm : BitVec k) : Word := s.pc + wordOffset imm

/-- The bit TBZ and TBNZ test (R329, R332). -/
def State.testedBit (s : State) (b5 : Bool) (b40 : BitVec 5) (rt : RegNum) : Bool :=
  (s.rz 64 rt).getLsbD (BitVec.ofBool b5 ++ b40).toNat

/-! ## Addresses -/

/-- `base` of a load or store (R350). -/
def State.base (s : State) (rn : RegNum) : Word := s.rsp 64 rn

/-- Unsigned offset: scaled by the access size (R351). -/
def State.unsignedAddress (s : State) (rn : RegNum) (imm12 : BitVec 12) (size : Nat) : Word :=
  s.base rn + imm12.setWidth 64 * BitVec.ofNat 64 size

/-- Unscaled offset, and the written-back value of pre- and post-index (R351). -/
def State.unscaledAddress (s : State) (rn : RegNum) (imm9 : BitVec 9) : Word :=
  s.base rn + imm9.signExtend 64

/-- Register offset: extended, and scaled by the access size when S is 1 (R352). -/
def State.registerAddress (s : State) (rn rm : RegNum) (ext : ExtendType) (scaled : Bool) (size : Nat) : Word :=
  s.base rn + extend 64 (s.rz 64 rm) ext (if scaled then size.log2 else 0)

/-- Pair offset: scaled by the element size (R359). -/
def State.pairAddress (s : State) (rn : RegNum) (imm7 : BitVec 7) (size : Nat) : Word :=
  s.base rn + imm7.signExtend 64 * BitVec.ofNat 64 size

end Sys2Proof.Machine
end

