-- ==== Sys2Proof/Machine/AddSub.lean ====
section
/-! DEFINITION. Add and subtract (spec/41_addsub.md). ADD and ADC add, SUB and SBC
add the complement; the carry in is 0, 1 or the C flag (R170). -/

namespace Sys2Proof.Machine

/-- The S forms: the result to Rd in zero-register mode, and all four flags (R171, R172). -/
def State.wrRzFlags (s : State) {n : Nat} (rd : RegNum) (r : BitVec n × Nzcv) : State :=
  (s.wrRz rd r.1).setFlags r.2

/-! ## Immediate (R173 to R176) -/

/-- ADD (immediate) (R173). -/
def execAddImmediate (sf sh : Bool) (imm12 : BitVec 12) (rn rd : RegNum) (s : State) : Result :=
  .next (s.wrRsp rd (addSub (width sf) (s.rsp (width sf) rn) (addSubImmediate (width sf) sh imm12) false false).1)

/-- ADDS (immediate) (R174). -/
def execAddsImmediate (sf sh : Bool) (imm12 : BitVec 12) (rn rd : RegNum) (s : State) : Result :=
  .next (s.wrRzFlags rd (addSub (width sf) (s.rsp (width sf) rn) (addSubImmediate (width sf) sh imm12) false false))

/-- SUB (immediate) (R175). -/
def execSubImmediate (sf sh : Bool) (imm12 : BitVec 12) (rn rd : RegNum) (s : State) : Result :=
  .next (s.wrRsp rd (addSub (width sf) (s.rsp (width sf) rn) (addSubImmediate (width sf) sh imm12) true true).1)

/-- SUBS (immediate) (R176). -/
def execSubsImmediate (sf sh : Bool) (imm12 : BitVec 12) (rn rd : RegNum) (s : State) : Result :=
  .next (s.wrRzFlags rd (addSub (width sf) (s.rsp (width sf) rn) (addSubImmediate (width sf) sh imm12) true true))

/-! ## Shifted register (R177 to R180) -/

/-- ADD (shifted register) (R177). -/
def execAddShiftedRegister (sf : Bool) (shift : ShiftType) (rm : RegNum) (imm6 : BitVec 6) (rn rd : RegNum)
    (s : State) : Result :=
  whenWellFormed (.addShiftedRegister sf shift rm imm6 rn rd) s <|
    .next (s.wrRz rd (addSub (width sf) (s.rz (width sf) rn) (s.shiftedOperand (width sf) rm shift imm6) false false).1)

/-- ADDS (shifted register) (R178). -/
def execAddsShiftedRegister (sf : Bool) (shift : ShiftType) (rm : RegNum) (imm6 : BitVec 6) (rn rd : RegNum)
    (s : State) : Result :=
  whenWellFormed (.addsShiftedRegister sf shift rm imm6 rn rd) s <|
    .next (s.wrRzFlags rd (addSub (width sf) (s.rz (width sf) rn) (s.shiftedOperand (width sf) rm shift imm6) false false))

/-- SUB (shifted register) (R179). -/
def execSubShiftedRegister (sf : Bool) (shift : ShiftType) (rm : RegNum) (imm6 : BitVec 6) (rn rd : RegNum)
    (s : State) : Result :=
  whenWellFormed (.subShiftedRegister sf shift rm imm6 rn rd) s <|
    .next (s.wrRz rd (addSub (width sf) (s.rz (width sf) rn) (s.shiftedOperand (width sf) rm shift imm6) true true).1)

/-- SUBS (shifted register) (R180). -/
def execSubsShiftedRegister (sf : Bool) (shift : ShiftType) (rm : RegNum) (imm6 : BitVec 6) (rn rd : RegNum)
    (s : State) : Result :=
  whenWellFormed (.subsShiftedRegister sf shift rm imm6 rn rd) s <|
    .next (s.wrRzFlags rd (addSub (width sf) (s.rz (width sf) rn) (s.shiftedOperand (width sf) rm shift imm6) true true))

/-! ## Extended register (R181 to R184) -/

/-- ADD (extended register) (R181). -/
def execAddExtendedRegister (sf : Bool) (rm : RegNum) (ext : ExtendType) (imm3 : BitVec 3) (rn rd : RegNum)
    (s : State) : Result :=
  whenWellFormed (.addExtendedRegister sf rm ext imm3 rn rd) s <|
    .next (s.wrRsp rd (addSub (width sf) (s.rsp (width sf) rn) (s.extendedOperand (width sf) rm ext imm3) false false).1)

/-- ADDS (extended register) (R182). -/
def execAddsExtendedRegister (sf : Bool) (rm : RegNum) (ext : ExtendType) (imm3 : BitVec 3) (rn rd : RegNum)
    (s : State) : Result :=
  whenWellFormed (.addsExtendedRegister sf rm ext imm3 rn rd) s <|
    .next (s.wrRzFlags rd (addSub (width sf) (s.rsp (width sf) rn) (s.extendedOperand (width sf) rm ext imm3) false false))

/-- SUB (extended register) (R183). -/
def execSubExtendedRegister (sf : Bool) (rm : RegNum) (ext : ExtendType) (imm3 : BitVec 3) (rn rd : RegNum)
    (s : State) : Result :=
  whenWellFormed (.subExtendedRegister sf rm ext imm3 rn rd) s <|
    .next (s.wrRsp rd (addSub (width sf) (s.rsp (width sf) rn) (s.extendedOperand (width sf) rm ext imm3) true true).1)

/-- SUBS (extended register) (R184). -/
def execSubsExtendedRegister (sf : Bool) (rm : RegNum) (ext : ExtendType) (imm3 : BitVec 3) (rn rd : RegNum)
    (s : State) : Result :=
  whenWellFormed (.subsExtendedRegister sf rm ext imm3 rn rd) s <|
    .next (s.wrRzFlags rd (addSub (width sf) (s.rsp (width sf) rn) (s.extendedOperand (width sf) rm ext imm3) true true))

/-! ## With carry (R185 to R188) -/

/-- ADC (R185). -/
def execAdc (sf : Bool) (rm rn rd : RegNum) (s : State) : Result :=
  .next (s.wrRz rd (addSub (width sf) (s.rz (width sf) rn) (s.rz (width sf) rm) false s.nzcv.c).1)

/-- ADCS (R186). -/
def execAdcs (sf : Bool) (rm rn rd : RegNum) (s : State) : Result :=
  .next (s.wrRzFlags rd (addSub (width sf) (s.rz (width sf) rn) (s.rz (width sf) rm) false s.nzcv.c))

/-- SBC (R187). -/
def execSbc (sf : Bool) (rm rn rd : RegNum) (s : State) : Result :=
  .next (s.wrRz rd (addSub (width sf) (s.rz (width sf) rn) (s.rz (width sf) rm) true s.nzcv.c).1)

/-- SBCS (R188). -/
def execSbcs (sf : Bool) (rm rn rd : RegNum) (s : State) : Result :=
  .next (s.wrRzFlags rd (addSub (width sf) (s.rz (width sf) rn) (s.rz (width sf) rm) true s.nzcv.c))

end Sys2Proof.Machine
end

