-- ==== Sys2Proof/Machine/LoadStore.lean ====
section
/-! DEFINITION. Ordinary loads and stores (spec/47_loadstore.md R350 to R360). The checks stand in
the order of spec/60_exceptions.md R467. -/

namespace Sys2Proof.Machine

/-! ## Common operations -/

/-- A loaded value as the register takes it (R356). -/
def loadExtend (n : Nat) (signed : Bool) {w : Nat} (v : BitVec w) : BitVec n :=
  if signed then v.signExtend n else v.setWidth n

/-- `Load(size, signed, n)` (R356). -/
def State.loadTo (s : State) (addr : Word) (size : Nat) (signed : Bool) (n : Nat) (rt : RegNum) : State :=
  s.wrRz rt (loadExtend n signed (s.memRead addr size))

/-- `Store(size)` of the low bytes of Rt (R356). -/
def State.storeFrom (s : State) (addr : Word) (size : Nat) (rt : RegNum) : State :=
  s.store addr size (s.rz 64 rt)

/-- A load without write-back (R358). -/
def State.load (s : State) (rn rt : RegNum) (addr : Word) (size : Nat) (signed : Bool) (n : Nat) : Result :=
  s.checkSp rn <| s.checkValid addr size <| .next (s.loadTo addr size signed n rt)

/-- A store without write-back (R358). -/
def State.storeAt (s : State) (rn rt : RegNum) (addr : Word) (size : Nat) : Result :=
  s.checkSp rn <| s.checkValid addr size <| .next (s.storeFrom addr size rt)

/-- A base register that is written back and transferred too is refused (R358, R359, U3). -/
def State.checkWriteback (s : State) (c : Command) (rn rt : RegNum) (k : Result) : Result :=
  if rn = rt ∧ rn ≠ 31#5 then s.refuse (.writebackOverlap · c) else k

/-- A pre- or post-indexed load: `back` is written back to the base (R351, R358). -/
def State.loadIndexed (s : State) (c : Command) (rn rt : RegNum) (addr back : Word) (size : Nat) (signed : Bool) (n : Nat) :
    Result :=
  s.checkWriteback c rn rt <| s.checkSp rn <| s.checkValid addr size <|
    .next ((s.loadTo addr size signed n rt).wrRsp rn back)

/-- A pre- or post-indexed store (R351, R358). -/
def State.storeIndexed (s : State) (c : Command) (rn rt : RegNum) (addr back : Word) (size : Nat) : Result :=
  s.checkWriteback c rn rt <| s.checkSp rn <| s.checkValid addr size <|
    .next ((s.storeFrom addr size rt).wrRsp rn back)

/-- The address of the second element of a pair (R359). -/
def pairSecond (addr : Word) (size : Nat) : Word := addr + BitVec.ofNat 64 size

/-- Both elements of a pair are checked before either is accessed (R359). -/
def State.checkPair (s : State) (addr : Word) (size : Nat) (k : Result) : Result :=
  s.checkValid addr size <| s.checkValid (pairSecond addr size) size k

/-- The two loads of a pair (R359). -/
def State.loadPairTo (s : State) (addr : Word) (size : Nat) (signed : Bool) (n : Nat) (rt rt2 : RegNum) : State :=
  (s.wrRz rt (loadExtend n signed (s.memRead addr size))).wrRz rt2
    (loadExtend n signed (s.memRead (pairSecond addr size) size))

/-- The two stores of a pair (R359). -/
def State.storePairFrom (s : State) (addr : Word) (size : Nat) (rt rt2 : RegNum) : State :=
  (s.memWrite addr size (s.rz 64 rt)).store (pairSecond addr size) size (s.rz 64 rt2)

/-- A pair load with Rt = Rt2 is refused (R359, U4). -/
def State.checkLoadPair (s : State) (c : Command) (rt rt2 : RegNum) (k : Result) : Result :=
  if rt = rt2 then s.refuse (.loadPairSameRegister · c) else k

/-- A pair load without write-back (R359). -/
def State.loadPair (s : State) (c : Command) (rn rt rt2 : RegNum) (addr : Word) (size : Nat) (signed : Bool) (n : Nat) : Result :=
  s.checkLoadPair c rt rt2 <| s.checkSp rn <| s.checkPair addr size <|
    .next (s.loadPairTo addr size signed n rt rt2)

/-- A pair store without write-back (R359). -/
def State.storePair (s : State) (rn rt rt2 : RegNum) (addr : Word) (size : Nat) : Result :=
  s.checkSp rn <| s.checkPair addr size <| .next (s.storePairFrom addr size rt rt2)

/-- A pre- or post-indexed pair load (R351, R359). -/
def State.loadPairIndexed (s : State) (c : Command) (rn rt rt2 : RegNum) (addr back : Word) (size : Nat) (signed : Bool)
    (n : Nat) : Result :=
  s.checkLoadPair c rt rt2 <| s.checkWriteback c rn rt <| s.checkWriteback c rn rt2 <| s.checkSp rn <|
    s.checkPair addr size <| .next ((s.loadPairTo addr size signed n rt rt2).wrRsp rn back)

/-- A pre- or post-indexed pair store (R351, R359). -/
def State.storePairIndexed (s : State) (c : Command) (rn rt rt2 : RegNum) (addr back : Word) (size : Nat) : Result :=
  s.checkWriteback c rn rt <| s.checkWriteback c rn rt2 <| s.checkSp rn <|
    s.checkPair addr size <| .next ((s.storePairFrom addr size rt rt2).wrRsp rn back)

/-- A literal load: no base register (R360). -/
def State.loadLiteral (s : State) (rt : RegNum) (addr : Word) (size : Nat) (signed : Bool) (n : Nat) : Result :=
  s.checkValid addr size <| .next (s.loadTo addr size signed n rt)

/-! ## STRB (R355, R358) -/

/-- STRB (unsigned offset) (R358). -/
def execStrbUnsignedOffset (imm12 : BitVec 12) (rn rt : RegNum) (s : State) : Result :=
  s.storeAt rn rt (s.unsignedAddress rn imm12 1) 1

/-- STRB (unscaled) (R358). -/
def execSturb (imm9 : BitVec 9) (rn rt : RegNum) (s : State) : Result :=
  s.storeAt rn rt (s.unscaledAddress rn imm9) 1

/-- STRB (post-index) (R351, R358). -/
def execStrbPostIndex (imm9 : BitVec 9) (rn rt : RegNum) (s : State) : Result :=
  s.storeIndexed (.instr (.strbPostIndex imm9 rn rt)) rn rt (s.base rn) (s.unscaledAddress rn imm9) 1

/-- STRB (pre-index) (R351, R358). -/
def execStrbPreIndex (imm9 : BitVec 9) (rn rt : RegNum) (s : State) : Result :=
  s.storeIndexed (.instr (.strbPreIndex imm9 rn rt))
    rn rt (s.unscaledAddress rn imm9) (s.unscaledAddress rn imm9) 1

/-- STRB (register offset) (R352, R358). -/
def execStrbRegisterOffset (rm : RegNum) (ext : ExtendType) (scaled : Bool) (rn rt : RegNum) (s : State) : Result :=
  whenWellFormed (.strbRegisterOffset rm ext scaled rn rt) s <|
    s.storeAt rn rt (s.registerAddress rn rm ext scaled 1) 1

/-! ## LDRB (R355, R358) -/

/-- LDRB (unsigned offset) (R358). -/
def execLdrbUnsignedOffset (imm12 : BitVec 12) (rn rt : RegNum) (s : State) : Result :=
  s.load rn rt (s.unsignedAddress rn imm12 1) 1 false 32

/-- LDRB (unscaled) (R358). -/
def execLdurb (imm9 : BitVec 9) (rn rt : RegNum) (s : State) : Result :=
  s.load rn rt (s.unscaledAddress rn imm9) 1 false 32

/-- LDRB (post-index) (R351, R358). -/
def execLdrbPostIndex (imm9 : BitVec 9) (rn rt : RegNum) (s : State) : Result :=
  s.loadIndexed (.instr (.ldrbPostIndex imm9 rn rt)) rn rt (s.base rn) (s.unscaledAddress rn imm9) 1 false 32

/-- LDRB (pre-index) (R351, R358). -/
def execLdrbPreIndex (imm9 : BitVec 9) (rn rt : RegNum) (s : State) : Result :=
  s.loadIndexed (.instr (.ldrbPreIndex imm9 rn rt))
    rn rt (s.unscaledAddress rn imm9) (s.unscaledAddress rn imm9) 1 false 32

/-- LDRB (register offset) (R352, R358). -/
def execLdrbRegisterOffset (rm : RegNum) (ext : ExtendType) (scaled : Bool) (rn rt : RegNum) (s : State) : Result :=
  whenWellFormed (.ldrbRegisterOffset rm ext scaled rn rt) s <|
    s.load rn rt (s.registerAddress rn rm ext scaled 1) 1 false 32

/-! ## STRH (R355, R358) -/

/-- STRH (unsigned offset) (R358). -/
def execStrhUnsignedOffset (imm12 : BitVec 12) (rn rt : RegNum) (s : State) : Result :=
  s.storeAt rn rt (s.unsignedAddress rn imm12 2) 2

/-- STRH (unscaled) (R358). -/
def execSturh (imm9 : BitVec 9) (rn rt : RegNum) (s : State) : Result :=
  s.storeAt rn rt (s.unscaledAddress rn imm9) 2

/-- STRH (post-index) (R351, R358). -/
def execStrhPostIndex (imm9 : BitVec 9) (rn rt : RegNum) (s : State) : Result :=
  s.storeIndexed (.instr (.strhPostIndex imm9 rn rt)) rn rt (s.base rn) (s.unscaledAddress rn imm9) 2

/-- STRH (pre-index) (R351, R358). -/
def execStrhPreIndex (imm9 : BitVec 9) (rn rt : RegNum) (s : State) : Result :=
  s.storeIndexed (.instr (.strhPreIndex imm9 rn rt))
    rn rt (s.unscaledAddress rn imm9) (s.unscaledAddress rn imm9) 2

/-- STRH (register offset) (R352, R358). -/
def execStrhRegisterOffset (rm : RegNum) (ext : ExtendType) (scaled : Bool) (rn rt : RegNum) (s : State) : Result :=
  whenWellFormed (.strhRegisterOffset rm ext scaled rn rt) s <|
    s.storeAt rn rt (s.registerAddress rn rm ext scaled 2) 2

/-! ## LDRH (R355, R358) -/

/-- LDRH (unsigned offset) (R358). -/
def execLdrhUnsignedOffset (imm12 : BitVec 12) (rn rt : RegNum) (s : State) : Result :=
  s.load rn rt (s.unsignedAddress rn imm12 2) 2 false 32

/-- LDRH (unscaled) (R358). -/
def execLdurh (imm9 : BitVec 9) (rn rt : RegNum) (s : State) : Result :=
  s.load rn rt (s.unscaledAddress rn imm9) 2 false 32

/-- LDRH (post-index) (R351, R358). -/
def execLdrhPostIndex (imm9 : BitVec 9) (rn rt : RegNum) (s : State) : Result :=
  s.loadIndexed (.instr (.ldrhPostIndex imm9 rn rt)) rn rt (s.base rn) (s.unscaledAddress rn imm9) 2 false 32

/-- LDRH (pre-index) (R351, R358). -/
def execLdrhPreIndex (imm9 : BitVec 9) (rn rt : RegNum) (s : State) : Result :=
  s.loadIndexed (.instr (.ldrhPreIndex imm9 rn rt))
    rn rt (s.unscaledAddress rn imm9) (s.unscaledAddress rn imm9) 2 false 32

/-- LDRH (register offset) (R352, R358). -/
def execLdrhRegisterOffset (rm : RegNum) (ext : ExtendType) (scaled : Bool) (rn rt : RegNum) (s : State) : Result :=
  whenWellFormed (.ldrhRegisterOffset rm ext scaled rn rt) s <|
    s.load rn rt (s.registerAddress rn rm ext scaled 2) 2 false 32

/-! ## STR Wt (R355, R358) -/

/-- STR Wt (unsigned offset) (R358). -/
def execStrWUnsignedOffset (imm12 : BitVec 12) (rn rt : RegNum) (s : State) : Result :=
  s.storeAt rn rt (s.unsignedAddress rn imm12 4) 4

/-- STR Wt (unscaled) (R358). -/
def execSturW (imm9 : BitVec 9) (rn rt : RegNum) (s : State) : Result :=
  s.storeAt rn rt (s.unscaledAddress rn imm9) 4

/-- STR Wt (post-index) (R351, R358). -/
def execStrWPostIndex (imm9 : BitVec 9) (rn rt : RegNum) (s : State) : Result :=
  s.storeIndexed (.instr (.strWPostIndex imm9 rn rt)) rn rt (s.base rn) (s.unscaledAddress rn imm9) 4

/-- STR Wt (pre-index) (R351, R358). -/
def execStrWPreIndex (imm9 : BitVec 9) (rn rt : RegNum) (s : State) : Result :=
  s.storeIndexed (.instr (.strWPreIndex imm9 rn rt))
    rn rt (s.unscaledAddress rn imm9) (s.unscaledAddress rn imm9) 4

/-- STR Wt (register offset) (R352, R358). -/
def execStrWRegisterOffset (rm : RegNum) (ext : ExtendType) (scaled : Bool) (rn rt : RegNum) (s : State) : Result :=
  whenWellFormed (.strWRegisterOffset rm ext scaled rn rt) s <|
    s.storeAt rn rt (s.registerAddress rn rm ext scaled 4) 4

/-! ## LDR Wt (R355, R358) -/

/-- LDR Wt (unsigned offset) (R358). -/
def execLdrWUnsignedOffset (imm12 : BitVec 12) (rn rt : RegNum) (s : State) : Result :=
  s.load rn rt (s.unsignedAddress rn imm12 4) 4 false 32

/-- LDR Wt (unscaled) (R358). -/
def execLdurW (imm9 : BitVec 9) (rn rt : RegNum) (s : State) : Result :=
  s.load rn rt (s.unscaledAddress rn imm9) 4 false 32

/-- LDR Wt (post-index) (R351, R358). -/
def execLdrWPostIndex (imm9 : BitVec 9) (rn rt : RegNum) (s : State) : Result :=
  s.loadIndexed (.instr (.ldrWPostIndex imm9 rn rt)) rn rt (s.base rn) (s.unscaledAddress rn imm9) 4 false 32

/-- LDR Wt (pre-index) (R351, R358). -/
def execLdrWPreIndex (imm9 : BitVec 9) (rn rt : RegNum) (s : State) : Result :=
  s.loadIndexed (.instr (.ldrWPreIndex imm9 rn rt))
    rn rt (s.unscaledAddress rn imm9) (s.unscaledAddress rn imm9) 4 false 32

/-- LDR Wt (register offset) (R352, R358). -/
def execLdrWRegisterOffset (rm : RegNum) (ext : ExtendType) (scaled : Bool) (rn rt : RegNum) (s : State) : Result :=
  whenWellFormed (.ldrWRegisterOffset rm ext scaled rn rt) s <|
    s.load rn rt (s.registerAddress rn rm ext scaled 4) 4 false 32

/-! ## STR Xt (R355, R358) -/

/-- STR Xt (unsigned offset) (R358). -/
def execStrXUnsignedOffset (imm12 : BitVec 12) (rn rt : RegNum) (s : State) : Result :=
  s.storeAt rn rt (s.unsignedAddress rn imm12 8) 8

/-- STR Xt (unscaled) (R358). -/
def execSturX (imm9 : BitVec 9) (rn rt : RegNum) (s : State) : Result :=
  s.storeAt rn rt (s.unscaledAddress rn imm9) 8

/-- STR Xt (post-index) (R351, R358). -/
def execStrXPostIndex (imm9 : BitVec 9) (rn rt : RegNum) (s : State) : Result :=
  s.storeIndexed (.instr (.strXPostIndex imm9 rn rt)) rn rt (s.base rn) (s.unscaledAddress rn imm9) 8

/-- STR Xt (pre-index) (R351, R358). -/
def execStrXPreIndex (imm9 : BitVec 9) (rn rt : RegNum) (s : State) : Result :=
  s.storeIndexed (.instr (.strXPreIndex imm9 rn rt))
    rn rt (s.unscaledAddress rn imm9) (s.unscaledAddress rn imm9) 8

/-- STR Xt (register offset) (R352, R358). -/
def execStrXRegisterOffset (rm : RegNum) (ext : ExtendType) (scaled : Bool) (rn rt : RegNum) (s : State) : Result :=
  whenWellFormed (.strXRegisterOffset rm ext scaled rn rt) s <|
    s.storeAt rn rt (s.registerAddress rn rm ext scaled 8) 8

/-! ## LDR Xt (R355, R358) -/

/-- LDR Xt (unsigned offset) (R358). -/
def execLdrXUnsignedOffset (imm12 : BitVec 12) (rn rt : RegNum) (s : State) : Result :=
  s.load rn rt (s.unsignedAddress rn imm12 8) 8 false 64

/-- LDR Xt (unscaled) (R358). -/
def execLdurX (imm9 : BitVec 9) (rn rt : RegNum) (s : State) : Result :=
  s.load rn rt (s.unscaledAddress rn imm9) 8 false 64

/-- LDR Xt (post-index) (R351, R358). -/
def execLdrXPostIndex (imm9 : BitVec 9) (rn rt : RegNum) (s : State) : Result :=
  s.loadIndexed (.instr (.ldrXPostIndex imm9 rn rt)) rn rt (s.base rn) (s.unscaledAddress rn imm9) 8 false 64

/-- LDR Xt (pre-index) (R351, R358). -/
def execLdrXPreIndex (imm9 : BitVec 9) (rn rt : RegNum) (s : State) : Result :=
  s.loadIndexed (.instr (.ldrXPreIndex imm9 rn rt))
    rn rt (s.unscaledAddress rn imm9) (s.unscaledAddress rn imm9) 8 false 64

/-- LDR Xt (register offset) (R352, R358). -/
def execLdrXRegisterOffset (rm : RegNum) (ext : ExtendType) (scaled : Bool) (rn rt : RegNum) (s : State) : Result :=
  whenWellFormed (.ldrXRegisterOffset rm ext scaled rn rt) s <|
    s.load rn rt (s.registerAddress rn rm ext scaled 8) 8 false 64

/-! ## LDRSB Xt (R355, R358) -/

/-- LDRSB Xt (unsigned offset) (R358). -/
def execLdrsbXUnsignedOffset (imm12 : BitVec 12) (rn rt : RegNum) (s : State) : Result :=
  s.load rn rt (s.unsignedAddress rn imm12 1) 1 true 64

/-- LDRSB Xt (unscaled) (R358). -/
def execLdursbX (imm9 : BitVec 9) (rn rt : RegNum) (s : State) : Result :=
  s.load rn rt (s.unscaledAddress rn imm9) 1 true 64

/-- LDRSB Xt (post-index) (R351, R358). -/
def execLdrsbXPostIndex (imm9 : BitVec 9) (rn rt : RegNum) (s : State) : Result :=
  s.loadIndexed (.instr (.ldrsbXPostIndex imm9 rn rt)) rn rt (s.base rn) (s.unscaledAddress rn imm9) 1 true 64

/-- LDRSB Xt (pre-index) (R351, R358). -/
def execLdrsbXPreIndex (imm9 : BitVec 9) (rn rt : RegNum) (s : State) : Result :=
  s.loadIndexed (.instr (.ldrsbXPreIndex imm9 rn rt))
    rn rt (s.unscaledAddress rn imm9) (s.unscaledAddress rn imm9) 1 true 64

/-- LDRSB Xt (register offset) (R352, R358). -/
def execLdrsbXRegisterOffset (rm : RegNum) (ext : ExtendType) (scaled : Bool) (rn rt : RegNum) (s : State) : Result :=
  whenWellFormed (.ldrsbXRegisterOffset rm ext scaled rn rt) s <|
    s.load rn rt (s.registerAddress rn rm ext scaled 1) 1 true 64

/-! ## LDRSB Wt (R355, R358) -/

/-- LDRSB Wt (unsigned offset) (R358). -/
def execLdrsbWUnsignedOffset (imm12 : BitVec 12) (rn rt : RegNum) (s : State) : Result :=
  s.load rn rt (s.unsignedAddress rn imm12 1) 1 true 32

/-- LDRSB Wt (unscaled) (R358). -/
def execLdursbW (imm9 : BitVec 9) (rn rt : RegNum) (s : State) : Result :=
  s.load rn rt (s.unscaledAddress rn imm9) 1 true 32

/-- LDRSB Wt (post-index) (R351, R358). -/
def execLdrsbWPostIndex (imm9 : BitVec 9) (rn rt : RegNum) (s : State) : Result :=
  s.loadIndexed (.instr (.ldrsbWPostIndex imm9 rn rt)) rn rt (s.base rn) (s.unscaledAddress rn imm9) 1 true 32

/-- LDRSB Wt (pre-index) (R351, R358). -/
def execLdrsbWPreIndex (imm9 : BitVec 9) (rn rt : RegNum) (s : State) : Result :=
  s.loadIndexed (.instr (.ldrsbWPreIndex imm9 rn rt))
    rn rt (s.unscaledAddress rn imm9) (s.unscaledAddress rn imm9) 1 true 32

/-- LDRSB Wt (register offset) (R352, R358). -/
def execLdrsbWRegisterOffset (rm : RegNum) (ext : ExtendType) (scaled : Bool) (rn rt : RegNum) (s : State) : Result :=
  whenWellFormed (.ldrsbWRegisterOffset rm ext scaled rn rt) s <|
    s.load rn rt (s.registerAddress rn rm ext scaled 1) 1 true 32

/-! ## LDRSH Xt (R355, R358) -/

/-- LDRSH Xt (unsigned offset) (R358). -/
def execLdrshXUnsignedOffset (imm12 : BitVec 12) (rn rt : RegNum) (s : State) : Result :=
  s.load rn rt (s.unsignedAddress rn imm12 2) 2 true 64

/-- LDRSH Xt (unscaled) (R358). -/
def execLdurshX (imm9 : BitVec 9) (rn rt : RegNum) (s : State) : Result :=
  s.load rn rt (s.unscaledAddress rn imm9) 2 true 64

/-- LDRSH Xt (post-index) (R351, R358). -/
def execLdrshXPostIndex (imm9 : BitVec 9) (rn rt : RegNum) (s : State) : Result :=
  s.loadIndexed (.instr (.ldrshXPostIndex imm9 rn rt)) rn rt (s.base rn) (s.unscaledAddress rn imm9) 2 true 64

/-- LDRSH Xt (pre-index) (R351, R358). -/
def execLdrshXPreIndex (imm9 : BitVec 9) (rn rt : RegNum) (s : State) : Result :=
  s.loadIndexed (.instr (.ldrshXPreIndex imm9 rn rt))
    rn rt (s.unscaledAddress rn imm9) (s.unscaledAddress rn imm9) 2 true 64

/-- LDRSH Xt (register offset) (R352, R358). -/
def execLdrshXRegisterOffset (rm : RegNum) (ext : ExtendType) (scaled : Bool) (rn rt : RegNum) (s : State) : Result :=
  whenWellFormed (.ldrshXRegisterOffset rm ext scaled rn rt) s <|
    s.load rn rt (s.registerAddress rn rm ext scaled 2) 2 true 64

/-! ## LDRSH Wt (R355, R358) -/

/-- LDRSH Wt (unsigned offset) (R358). -/
def execLdrshWUnsignedOffset (imm12 : BitVec 12) (rn rt : RegNum) (s : State) : Result :=
  s.load rn rt (s.unsignedAddress rn imm12 2) 2 true 32

/-- LDRSH Wt (unscaled) (R358). -/
def execLdurshW (imm9 : BitVec 9) (rn rt : RegNum) (s : State) : Result :=
  s.load rn rt (s.unscaledAddress rn imm9) 2 true 32

/-- LDRSH Wt (post-index) (R351, R358). -/
def execLdrshWPostIndex (imm9 : BitVec 9) (rn rt : RegNum) (s : State) : Result :=
  s.loadIndexed (.instr (.ldrshWPostIndex imm9 rn rt)) rn rt (s.base rn) (s.unscaledAddress rn imm9) 2 true 32

/-- LDRSH Wt (pre-index) (R351, R358). -/
def execLdrshWPreIndex (imm9 : BitVec 9) (rn rt : RegNum) (s : State) : Result :=
  s.loadIndexed (.instr (.ldrshWPreIndex imm9 rn rt))
    rn rt (s.unscaledAddress rn imm9) (s.unscaledAddress rn imm9) 2 true 32

/-- LDRSH Wt (register offset) (R352, R358). -/
def execLdrshWRegisterOffset (rm : RegNum) (ext : ExtendType) (scaled : Bool) (rn rt : RegNum) (s : State) : Result :=
  whenWellFormed (.ldrshWRegisterOffset rm ext scaled rn rt) s <|
    s.load rn rt (s.registerAddress rn rm ext scaled 2) 2 true 32

/-! ## LDRSW (R355, R358) -/

/-- LDRSW (unsigned offset) (R358). -/
def execLdrswUnsignedOffset (imm12 : BitVec 12) (rn rt : RegNum) (s : State) : Result :=
  s.load rn rt (s.unsignedAddress rn imm12 4) 4 true 64

/-- LDRSW (unscaled) (R358). -/
def execLdursw (imm9 : BitVec 9) (rn rt : RegNum) (s : State) : Result :=
  s.load rn rt (s.unscaledAddress rn imm9) 4 true 64

/-- LDRSW (post-index) (R351, R358). -/
def execLdrswPostIndex (imm9 : BitVec 9) (rn rt : RegNum) (s : State) : Result :=
  s.loadIndexed (.instr (.ldrswPostIndex imm9 rn rt)) rn rt (s.base rn) (s.unscaledAddress rn imm9) 4 true 64

/-- LDRSW (pre-index) (R351, R358). -/
def execLdrswPreIndex (imm9 : BitVec 9) (rn rt : RegNum) (s : State) : Result :=
  s.loadIndexed (.instr (.ldrswPreIndex imm9 rn rt))
    rn rt (s.unscaledAddress rn imm9) (s.unscaledAddress rn imm9) 4 true 64

/-- LDRSW (register offset) (R352, R358). -/
def execLdrswRegisterOffset (rm : RegNum) (ext : ExtendType) (scaled : Bool) (rn rt : RegNum) (s : State) : Result :=
  whenWellFormed (.ldrswRegisterOffset rm ext scaled rn rt) s <|
    s.load rn rt (s.registerAddress rn rm ext scaled 4) 4 true 64

/-! ## STP Wt (R359) -/

/-- STP Wt (offset) (R359). -/
def execStpWOffset (imm7 : BitVec 7) (rt2 rn rt : RegNum) (s : State) : Result :=
  s.storePair rn rt rt2 (s.pairAddress rn imm7 4) 4

/-- STP Wt (post-index) (R351, R359). -/
def execStpWPostIndex (imm7 : BitVec 7) (rt2 rn rt : RegNum) (s : State) : Result :=
  s.storePairIndexed (.instr (.stpWPostIndex imm7 rt2 rn rt))
    rn rt rt2 (s.base rn) (s.pairAddress rn imm7 4) 4

/-- STP Wt (pre-index) (R351, R359). -/
def execStpWPreIndex (imm7 : BitVec 7) (rt2 rn rt : RegNum) (s : State) : Result :=
  s.storePairIndexed (.instr (.stpWPreIndex imm7 rt2 rn rt))
    rn rt rt2 (s.pairAddress rn imm7 4) (s.pairAddress rn imm7 4) 4

/-! ## LDP Wt (R359) -/

/-- LDP Wt (offset) (R359). -/
def execLdpWOffset (imm7 : BitVec 7) (rt2 rn rt : RegNum) (s : State) : Result :=
  s.loadPair (.instr (.ldpWOffset imm7 rt2 rn rt)) rn rt rt2 (s.pairAddress rn imm7 4) 4 false 32

/-- LDP Wt (post-index) (R351, R359). -/
def execLdpWPostIndex (imm7 : BitVec 7) (rt2 rn rt : RegNum) (s : State) : Result :=
  s.loadPairIndexed (.instr (.ldpWPostIndex imm7 rt2 rn rt))
    rn rt rt2 (s.base rn) (s.pairAddress rn imm7 4) 4 false 32

/-- LDP Wt (pre-index) (R351, R359). -/
def execLdpWPreIndex (imm7 : BitVec 7) (rt2 rn rt : RegNum) (s : State) : Result :=
  s.loadPairIndexed (.instr (.ldpWPreIndex imm7 rt2 rn rt))
    rn rt rt2 (s.pairAddress rn imm7 4) (s.pairAddress rn imm7 4) 4 false 32

/-! ## STP Xt (R359) -/

/-- STP Xt (offset) (R359). -/
def execStpXOffset (imm7 : BitVec 7) (rt2 rn rt : RegNum) (s : State) : Result :=
  s.storePair rn rt rt2 (s.pairAddress rn imm7 8) 8

/-- STP Xt (post-index) (R351, R359). -/
def execStpXPostIndex (imm7 : BitVec 7) (rt2 rn rt : RegNum) (s : State) : Result :=
  s.storePairIndexed (.instr (.stpXPostIndex imm7 rt2 rn rt))
    rn rt rt2 (s.base rn) (s.pairAddress rn imm7 8) 8

/-- STP Xt (pre-index) (R351, R359). -/
def execStpXPreIndex (imm7 : BitVec 7) (rt2 rn rt : RegNum) (s : State) : Result :=
  s.storePairIndexed (.instr (.stpXPreIndex imm7 rt2 rn rt))
    rn rt rt2 (s.pairAddress rn imm7 8) (s.pairAddress rn imm7 8) 8

/-! ## LDP Xt (R359) -/

/-- LDP Xt (offset) (R359). -/
def execLdpXOffset (imm7 : BitVec 7) (rt2 rn rt : RegNum) (s : State) : Result :=
  s.loadPair (.instr (.ldpXOffset imm7 rt2 rn rt)) rn rt rt2 (s.pairAddress rn imm7 8) 8 false 64

/-- LDP Xt (post-index) (R351, R359). -/
def execLdpXPostIndex (imm7 : BitVec 7) (rt2 rn rt : RegNum) (s : State) : Result :=
  s.loadPairIndexed (.instr (.ldpXPostIndex imm7 rt2 rn rt))
    rn rt rt2 (s.base rn) (s.pairAddress rn imm7 8) 8 false 64

/-- LDP Xt (pre-index) (R351, R359). -/
def execLdpXPreIndex (imm7 : BitVec 7) (rt2 rn rt : RegNum) (s : State) : Result :=
  s.loadPairIndexed (.instr (.ldpXPreIndex imm7 rt2 rn rt))
    rn rt rt2 (s.pairAddress rn imm7 8) (s.pairAddress rn imm7 8) 8 false 64

/-! ## Literals (R360) -/

/-- LDR Wt (literal) (R360). -/
def execLdrWLiteral (imm19 : BitVec 19) (rt : RegNum) (s : State) : Result :=
  s.loadLiteral rt (s.pcOffset imm19) 4 false 32

/-- LDR Xt (literal) (R360). -/
def execLdrXLiteral (imm19 : BitVec 19) (rt : RegNum) (s : State) : Result :=
  s.loadLiteral rt (s.pcOffset imm19) 8 false 64

/-- LDRSW (literal) (R360). -/
def execLdrswLiteral (imm19 : BitVec 19) (rt : RegNum) (s : State) : Result :=
  s.loadLiteral rt (s.pcOffset imm19) 4 true 64

end Sys2Proof.Machine
end

