-- ==== Sys2Proof/Machine/Atomic.lean ====
section
/-! DEFINITION. Exclusive, acquire/release and atomic accesses (spec/47_loadstore.md R363 to
R370, spec/20_memory.md R67, R75 to R80). -/

namespace Sys2Proof.Machine

/-! ## Common operations -/

/-- The checks of every access of this file, on the base address and the total size (R353, R67, R354). That
the two elements of a CASP, LDXP or STXP are one range, whose base AddressFault records whichever element is
outside the image, is a DESIGN CHOICE (log 22). -/
def State.checkAtomic (s : State) (rn : RegNum) (size : Nat) (k : Result) : Result :=
  s.checkSp rn <| s.checkLine (s.base rn) size <| s.checkValid (s.base rn) size k

/-- A load-exclusive (R77, R363). -/
def State.loadExclusive (s : State) (size : AccessSize) (rn rt : RegNum) : Result :=
  s.checkAtomic rn (accessBytes size) <|
    .next ((s.loadTo (s.base rn) (accessBytes size) false (accessRegWidth size) rt).markExclusive
      (s.base rn) (accessBytes size))

/-- Whether a store-exclusive stores: both monitors cover the access (R78). -/
def State.exclusiveOk (s : State) (addr : Word) (size : Nat) : Bool :=
  covers s.localMonitor addr size && covers s.globalMonitor addr size

/-- A store-exclusive whose status register is an operand is refused (R364, U5). -/
def State.checkStatusRegister (s : State) (c : Command) (rs rn rt : RegNum) (k : Result) : Result :=
  if rs = rt ∨ rs = rn then s.refuse (.storeExclusiveOverlap · c) else k

/-- A store-exclusive: the local monitor is cleared and the status written either way (R78, R364). -/
def State.storeExclusive (s : State) (c : Command) (size : AccessSize) (rs rn rt : RegNum) : Result :=
  s.checkStatusRegister c rs rn rt <| s.checkAtomic rn (accessBytes size) <|
    if s.exclusiveOk (s.base rn) (accessBytes size) then
      .next (((s.memWrite (s.base rn) (accessBytes size) (s.rz 64 rt)).clearLocal).wrRz rs 0#32)
    else .next (s.clearLocal.wrRz rs 1#32)

/-- A load-acquire: the fence changes no state (R82, R365, R370). -/
def State.loadAcquire (s : State) (size : AccessSize) (rn rt : RegNum) : Result :=
  s.checkAtomic rn (accessBytes size) <|
    .next (s.loadTo (s.base rn) (accessBytes size) false (accessRegWidth size) rt)

/-- A store-release, a non-exclusive store (R365). -/
def State.storeRelease (s : State) (size : AccessSize) (rn rt : RegNum) : Result :=
  s.checkAtomic rn (accessBytes size) <| .next (s.storeFrom (s.base rn) (accessBytes size) rt)

/-- An atomic read-modify-write: memory takes `op old operand`, `rt` the old value (R368, R369). -/
def State.atomicUpdate (s : State) (size : AccessSize) (rs rn rt : RegNum)
    (op : BitVec (8 * accessBytes size) → BitVec (8 * accessBytes size) → BitVec (8 * accessBytes size)) :
    Result :=
  s.checkAtomic rn (accessBytes size) <|
    let old := s.memRead (s.base rn) (accessBytes size)
    let new := op old (s.rz (8 * accessBytes size) rs)
    .next ((s.store (s.base rn) (accessBytes size) new).wrRz rt (old.setWidth (accessRegWidth size)))

/-! ## Exclusives (R363, R364) -/

/-- LDXR, LDXRB, LDXRH (R363). -/
def execLdxr (size : AccessSize) (rn rt : RegNum) (s : State) : Result := s.loadExclusive size rn rt

/-- LDAXR, LDAXRB, LDAXRH (R363). -/
def execLdaxr (size : AccessSize) (rn rt : RegNum) (s : State) : Result := s.loadExclusive size rn rt

/-- STXR, STXRB, STXRH (R364). -/
def execStxr (size : AccessSize) (rs rn rt : RegNum) (s : State) : Result :=
  s.storeExclusive (.instr (.stxr size rs rn rt)) size rs rn rt

/-- STLXR, STLXRB, STLXRH (R364). -/
def execStlxr (size : AccessSize) (rs rn rt : RegNum) (s : State) : Result :=
  s.storeExclusive (.instr (.stlxr size rs rn rt)) size rs rn rt

/-! ## Acquire and release (R365, R370) -/

/-- LDAR, LDARB, LDARH (R365). -/
def execLdar (size : AccessSize) (rn rt : RegNum) (s : State) : Result := s.loadAcquire size rn rt

/-- STLR, STLRB, STLRH (R365). -/
def execStlr (size : AccessSize) (rn rt : RegNum) (s : State) : Result := s.storeRelease size rn rt

/-- LDAPR, LDAPRB, LDAPRH (R370). -/
def execLdapr (size : AccessSize) (rn rt : RegNum) (s : State) : Result := s.loadAcquire size rn rt

/-! ## Atomics (R366, R368, R369): the acquire and release bits only add fences (R83) -/

/-- CAS: Rs takes the observed value; a store clears the local monitor (R366). -/
def execCas (size : AccessSize) (_acq : Bool) (rs : RegNum) (_rel : Bool) (rn rt : RegNum) (s : State) : Result :=
  s.checkAtomic rn (accessBytes size) <|
    let old := s.memRead (s.base rn) (accessBytes size)
    let t := if old = s.rz (8 * accessBytes size) rs then s.storeFrom (s.base rn) (accessBytes size) rt else s
    .next (t.wrRz rs (old.setWidth (accessRegWidth size)))

/-- SWP (R368). -/
def execSwp (size : AccessSize) (_acq _rel : Bool) (rs rn rt : RegNum) (s : State) : Result :=
  s.atomicUpdate size rs rn rt fun _ v => v

/-- LDADD (R369). -/
def execLdadd (size : AccessSize) (_acq _rel : Bool) (rs rn rt : RegNum) (s : State) : Result :=
  s.atomicUpdate size rs rn rt fun old v => old + v

/-- LDCLR (R369). -/
def execLdclr (size : AccessSize) (_acq _rel : Bool) (rs rn rt : RegNum) (s : State) : Result :=
  s.atomicUpdate size rs rn rt fun old v => old &&& ~~~v

/-- LDEOR (R369). -/
def execLdeor (size : AccessSize) (_acq _rel : Bool) (rs rn rt : RegNum) (s : State) : Result :=
  s.atomicUpdate size rs rn rt fun old v => old ^^^ v

/-- LDSET (R369). -/
def execLdset (size : AccessSize) (_acq _rel : Bool) (rs rn rt : RegNum) (s : State) : Result :=
  s.atomicUpdate size rs rn rt fun old v => old ||| v

/-- LDSMAX (R369). -/
def execLdsmax (size : AccessSize) (_acq _rel : Bool) (rs rn rt : RegNum) (s : State) : Result :=
  s.atomicUpdate size rs rn rt fun old v => if old.toInt ≥ v.toInt then old else v

/-- LDSMIN (R369). -/
def execLdsmin (size : AccessSize) (_acq _rel : Bool) (rs rn rt : RegNum) (s : State) : Result :=
  s.atomicUpdate size rs rn rt fun old v => if old.toInt ≤ v.toInt then old else v

/-- LDUMAX (R369). -/
def execLdumax (size : AccessSize) (_acq _rel : Bool) (rs rn rt : RegNum) (s : State) : Result :=
  s.atomicUpdate size rs rn rt fun old v => if old.toNat ≥ v.toNat then old else v

/-- LDUMIN (R369). -/
def execLdumin (size : AccessSize) (_acq _rel : Bool) (rs rn rt : RegNum) (s : State) : Result :=
  s.atomicUpdate size rs rn rt fun old v => if old.toNat ≤ v.toNat then old else v

end Sys2Proof.Machine
end

