-- ==== Sys2Proof/Machine/Bitfield.lean ====
section
/-! DEFINITION. Bitfield moves and extract (spec/44_bitfield_extract.md). -/

namespace Sys2Proof.Machine

/-- The common operation of the bitfield moves (R250). -/
def State.bitfieldMove (s : State) (n : Nat) (immr imms : BitVec 6) (rn rd : RegNum) (inzero ext : Bool) : State :=
  s.wrRz rd (bitfield n (s.rz n rn) (s.rz n rd) immr.toNat imms.toNat inzero ext)

/-- SBFM (R251). -/
def execSbfm (sf nBit : Bool) (immr imms : BitVec 6) (rn rd : RegNum) (s : State) : Result :=
  whenWellFormed (.sbfm sf nBit immr imms rn rd) s <|
    .next (s.bitfieldMove (width sf) immr imms rn rd true true)

/-- BFM (R252). -/
def execBfm (sf nBit : Bool) (immr imms : BitVec 6) (rn rd : RegNum) (s : State) : Result :=
  whenWellFormed (.bfm sf nBit immr imms rn rd) s <|
    .next (s.bitfieldMove (width sf) immr imms rn rd false false)

/-- UBFM (R253). -/
def execUbfm (sf nBit : Bool) (immr imms : BitVec 6) (rn rd : RegNum) (s : State) : Result :=
  whenWellFormed (.ubfm sf nBit immr imms rn rd) s <|
    .next (s.bitfieldMove (width sf) immr imms rn rd true false)

/-- EXTR (R255). -/
def execExtr (sf nBit : Bool) (rm : RegNum) (imms : BitVec 6) (rn rd : RegNum) (s : State) : Result :=
  whenWellFormed (.extr sf nBit rm imms rn rd) s <|
    .next (s.wrRz rd (extractPair (width sf) (s.rz (width sf) rn) (s.rz (width sf) rm) imms.toNat))

end Sys2Proof.Machine
end

