-- ==== Sys2Proof/Machine/Branch.lean ====
section
/-! DEFINITION. PC-relative addresses and branches (spec/46_pcrel_branch.md). The
loop moves next BType to current and gives every other instruction Default (R320, R338). -/

namespace Sys2Proof.Machine

/-! ## PC-relative addresses -/

/-- ADR (R323). -/
def execAdr (immlo : BitVec 2) (immhi : BitVec 19) (rd : RegNum) (s : State) : Result :=
  .next (s.wrRz rd (s.pc + adrOffset immhi immlo))

/-- ADRP (R324). -/
def execAdrp (immlo : BitVec 2) (immhi : BitVec 19) (rd : RegNum) (s : State) : Result :=
  .next (s.wrRz rd ((s.pc &&& ~~~0xFFF#64) + adrpOffset immhi immlo))

/-! ## Direct branches -/

/-- A direct branch, taken or not: one not taken changes nothing (R326 to R332). -/
def State.branchIf (s : State) (taken : Bool) (target : Word) : State :=
  if taken then s.branchTo target else s

/-- B (R330). -/
def execB (imm26 : BitVec 26) (s : State) : Result := .next (s.branchTo (s.pcOffset imm26))

/-- BL (R331). -/
def execBl (imm26 : BitVec 26) (s : State) : Result := .next (s.link.branchTo (s.pcOffset imm26))

/-- B.cond (R326). -/
def execBCond (imm19 : BitVec 19) (cond : Cond) (s : State) : Result :=
  .next (s.branchIf (conditionHolds cond s.nzcv) (s.pcOffset imm19))

/-- CBZ (R327). -/
def execCbz (sf : Bool) (imm19 : BitVec 19) (rt : RegNum) (s : State) : Result :=
  .next (s.branchIf (decide (s.rz (width sf) rt = 0#(width sf))) (s.pcOffset imm19))

/-- CBNZ (R328). -/
def execCbnz (sf : Bool) (imm19 : BitVec 19) (rt : RegNum) (s : State) : Result :=
  .next (s.branchIf (decide (s.rz (width sf) rt ≠ 0#(width sf))) (s.pcOffset imm19))

/-- TBZ (R329). -/
def execTbz (b5 : Bool) (b40 : BitVec 5) (imm14 : BitVec 14) (rt : RegNum) (s : State) : Result :=
  .next (s.branchIf (!s.testedBit b5 b40 rt) (s.pcOffset imm14))

/-- TBNZ (R332). -/
def execTbnz (b5 : Bool) (b40 : BitVec 5) (imm14 : BitVec 14) (rt : RegNum) (s : State) : Result :=
  .next (s.branchIf (s.testedBit b5 b40 rt) (s.pcOffset imm14))

/-! ## Register branches -/

/-- The next BType of BR (R338). -/
def State.brBType (s : State) (rn : RegNum) : BType :=
  if rn = 16#5 ∨ rn = 17#5 ∨ s.guardedPage s.pc = false then .branchFromUnguardedOrToIP
  else .branchFromGuardedNotToIP

/-- BR (R334, R338). -/
def execBr (rn : RegNum) (s : State) : Result :=
  .next ((s.branchTo (s.rz 64 rn)).setBTypeNext (s.brBType rn))

/-- BLR: the target is read before the link register is written (R335). -/
def execBlr (rn : RegNum) (s : State) : Result :=
  .next ((s.link.branchTo (s.rz 64 rn)).setBTypeNext .branchAndLink)

/-- RET (R336). -/
def execRet (rn : RegNum) (s : State) : Result := .next (s.branchTo (s.rz 64 rn))

end Sys2Proof.Machine
end

