-- ==== Sys2Proof/Machine/Cond.lean ====
section
/-! DEFINITION. Conditional compare and select (spec/43_cond.md). -/

namespace Sys2Proof.Machine

/-- Conditional compare: the flags of a CMP or CMN when the condition holds, else the immediate
(R230). -/
def State.conditionalCompare (s : State) (n : Nat) (op1 op2 : BitVec n) (isCcmp : Bool) (cond : Cond)
    (nzcv : BitVec 4) : State :=
  s.setFlags (if conditionHolds cond s.nzcv then (addSub n op1 op2 isCcmp isCcmp).2 else Nzcv.ofBits nzcv)

/-- Conditional select: Rn when the condition holds, else `f` of Rm (R235). -/
def State.conditionalSelect (s : State) (n : Nat) (cond : Cond) (rm rn rd : RegNum)
    (f : BitVec n → BitVec n) : State :=
  s.wrRz rd (if conditionHolds cond s.nzcv then s.rz n rn else f (s.rz n rm))

/-- CCMN (register) (R231). -/
def execCcmnRegister (sf : Bool) (rm : RegNum) (cond : Cond) (rn : RegNum) (nzcv : BitVec 4)
    (s : State) : Result :=
  .next (s.conditionalCompare (width sf) (s.rz (width sf) rn) (s.rz (width sf) rm) false cond nzcv)

/-- CCMP (register) (R232). -/
def execCcmpRegister (sf : Bool) (rm : RegNum) (cond : Cond) (rn : RegNum) (nzcv : BitVec 4)
    (s : State) : Result :=
  .next (s.conditionalCompare (width sf) (s.rz (width sf) rn) (s.rz (width sf) rm) true cond nzcv)

/-- CCMN (immediate) (R233). -/
def execCcmnImmediate (sf : Bool) (imm5 : BitVec 5) (cond : Cond) (rn : RegNum) (nzcv : BitVec 4)
    (s : State) : Result :=
  .next (s.conditionalCompare (width sf) (s.rz (width sf) rn) (imm5.setWidth (width sf)) false cond nzcv)

/-- CCMP (immediate) (R234). -/
def execCcmpImmediate (sf : Bool) (imm5 : BitVec 5) (cond : Cond) (rn : RegNum) (nzcv : BitVec 4)
    (s : State) : Result :=
  .next (s.conditionalCompare (width sf) (s.rz (width sf) rn) (imm5.setWidth (width sf)) true cond nzcv)

/-- CSEL (R236). -/
def execCsel (sf : Bool) (rm : RegNum) (cond : Cond) (rn rd : RegNum) (s : State) : Result :=
  .next (s.conditionalSelect (width sf) cond rm rn rd fun x => x)

/-- CSINC (R237). -/
def execCsinc (sf : Bool) (rm : RegNum) (cond : Cond) (rn rd : RegNum) (s : State) : Result :=
  .next (s.conditionalSelect (width sf) cond rm rn rd fun x => x + 1)

/-- CSINV (R238). -/
def execCsinv (sf : Bool) (rm : RegNum) (cond : Cond) (rn rd : RegNum) (s : State) : Result :=
  .next (s.conditionalSelect (width sf) cond rm rn rd fun x => ~~~x)

/-- CSNEG (R239). -/
def execCsneg (sf : Bool) (rm : RegNum) (cond : Cond) (rn rd : RegNum) (s : State) : Result :=
  .next (s.conditionalSelect (width sf) cond rm rn rd fun x => -x)

end Sys2Proof.Machine
end

