-- ==== Sys2Proof/Machine/DataProc.lean ====
section
/-! DEFINITION. Data processing with one, two and three register sources
(spec/45_dp_source.md). Every register number 31 is the zero register. -/

namespace Sys2Proof.Machine

/-! ## One source -/

/-- The common operation of the one-source instructions (R270). -/
def State.dp1 (s : State) (n : Nat) (rn rd : RegNum) (f : BitVec n → BitVec n) : State :=
  s.wrRz rd (f (s.rz n rn))

/-- RBIT (R271). -/
def execRbit (sf : Bool) (rn rd : RegNum) (s : State) : Result :=
  .next (s.dp1 (width sf) rn rd (reverseBits (width sf)))

/-- REV16 (R272). -/
def execRev16 (sf : Bool) (rn rd : RegNum) (s : State) : Result :=
  .next (s.dp1 (width sf) rn rd fun x => reverseBytes (width sf) x 16)

/-- REV (32-bit) (R273). -/
def execRevW (rn rd : RegNum) (s : State) : Result :=
  .next (s.dp1 32 rn rd fun x => reverseBytes 32 x 32)

/-- REV32 (R274). -/
def execRev32 (rn rd : RegNum) (s : State) : Result :=
  .next (s.dp1 64 rn rd fun x => reverseBytes 64 x 32)

/-- REV (64-bit) (R275). -/
def execRevX (rn rd : RegNum) (s : State) : Result :=
  .next (s.dp1 64 rn rd fun x => reverseBytes 64 x 64)

/-- CLZ (R276). -/
def execClz (sf : Bool) (rn rd : RegNum) (s : State) : Result :=
  .next (s.dp1 (width sf) rn rd fun x => BitVec.ofNat (width sf) (clz (width sf) x))

/-- CLS (R277). -/
def execCls (sf : Bool) (rn rd : RegNum) (s : State) : Result :=
  .next (s.dp1 (width sf) rn rd fun x => BitVec.ofNat (width sf) (cls (width sf) x))

/-! ## Two sources -/

/-- The common operation of the two-source instructions (R280). -/
def State.dp2 (s : State) (n : Nat) (rm rn rd : RegNum) (f : BitVec n → BitVec n → BitVec n) : State :=
  s.wrRz rd (f (s.rz n rn) (s.rz n rm))

/-- A variable shift (R283). -/
def State.variableShift (s : State) (n : Nat) (rm rn rd : RegNum) (ty : ShiftType) : State :=
  s.wrRz rd (shift n (s.rz n rn) ty (s.shiftCount n rm))

/-- The common operation of the CRC32 instructions; the data is the low `size` bits of Rm (R288). -/
def State.crc (s : State) (size : Nat) (poly : BitVec 32) (rm rn rd : RegNum) : State :=
  s.wrRz rd (crc32 (s.rz 32 rn) size (s.rz size rm) poly)

/-- UDIV (R281). -/
def execUdiv (sf : Bool) (rm rn rd : RegNum) (s : State) : Result :=
  .next (s.dp2 (width sf) rm rn rd (uDiv (width sf)))

/-- SDIV (R282). -/
def execSdiv (sf : Bool) (rm rn rd : RegNum) (s : State) : Result :=
  .next (s.dp2 (width sf) rm rn rd (sDiv (width sf)))

/-- LSLV (R284). -/
def execLslv (sf : Bool) (rm rn rd : RegNum) (s : State) : Result :=
  .next (s.variableShift (width sf) rm rn rd .lsl)

/-- LSRV (R285). -/
def execLsrv (sf : Bool) (rm rn rd : RegNum) (s : State) : Result :=
  .next (s.variableShift (width sf) rm rn rd .lsr)

/-- ASRV (R286). -/
def execAsrv (sf : Bool) (rm rn rd : RegNum) (s : State) : Result :=
  .next (s.variableShift (width sf) rm rn rd .asr)

/-- RORV (R287). -/
def execRorv (sf : Bool) (rm rn rd : RegNum) (s : State) : Result :=
  .next (s.variableShift (width sf) rm rn rd .ror)

/-- CRC32B (R289). -/
def execCrc32b (rm rn rd : RegNum) (s : State) : Result :=
  .next (s.crc 8 polyCrc32 rm rn rd)

/-- CRC32H (R290). -/
def execCrc32h (rm rn rd : RegNum) (s : State) : Result :=
  .next (s.crc 16 polyCrc32 rm rn rd)

/-- CRC32W (R291). -/
def execCrc32w (rm rn rd : RegNum) (s : State) : Result :=
  .next (s.crc 32 polyCrc32 rm rn rd)

/-- CRC32X (R292). -/
def execCrc32x (rm rn rd : RegNum) (s : State) : Result :=
  .next (s.crc 64 polyCrc32 rm rn rd)

/-- CRC32CB (R293). -/
def execCrc32cb (rm rn rd : RegNum) (s : State) : Result :=
  .next (s.crc 8 polyCrc32c rm rn rd)

/-- CRC32CH (R294). -/
def execCrc32ch (rm rn rd : RegNum) (s : State) : Result :=
  .next (s.crc 16 polyCrc32c rm rn rd)

/-- CRC32CW (R295). -/
def execCrc32cw (rm rn rd : RegNum) (s : State) : Result :=
  .next (s.crc 32 polyCrc32c rm rn rd)

/-- CRC32CX (R296). -/
def execCrc32cx (rm rn rd : RegNum) (s : State) : Result :=
  .next (s.crc 64 polyCrc32c rm rn rd)

/-! ## Three sources -/

/-- MADD and MSUB: `Ra` plus or minus the product, modulo 2^n (R301, R302). -/
def State.multiplyAdd (s : State) (n : Nat) (rm ra rn rd : RegNum) (sub : Bool) : State :=
  let product : Int := (s.rz n rn).toNat * (s.rz n rm).toNat
  let acc : Int := (s.rz n ra).toNat
  s.wrRz rd (toBits n (if sub then acc - product else acc + product))

/-- The long forms: W sources, a 64-bit accumulator and result (R303, R304, R306, R307). -/
def State.multiplyAddLong (s : State) (rm ra rn rd : RegNum) (signed sub : Bool) : State :=
  let value (v : BitVec 32) : Int := if signed then v.toInt else v.toNat
  let acc : Int := if signed then (s.rz 64 ra).toInt else (s.rz 64 ra).toNat
  let product := value (s.rz 32 rn) * value (s.rz 32 rm)
  s.wrRz rd (toBits 64 (if sub then acc - product else acc + product))

/-- MADD (R301). -/
def execMadd (sf : Bool) (rm ra rn rd : RegNum) (s : State) : Result :=
  .next (s.multiplyAdd (width sf) rm ra rn rd false)

/-- MSUB (R302). -/
def execMsub (sf : Bool) (rm ra rn rd : RegNum) (s : State) : Result :=
  .next (s.multiplyAdd (width sf) rm ra rn rd true)

/-- SMADDL (R303). -/
def execSmaddl (rm ra rn rd : RegNum) (s : State) : Result :=
  .next (s.multiplyAddLong rm ra rn rd true false)

/-- SMSUBL (R304). -/
def execSmsubl (rm ra rn rd : RegNum) (s : State) : Result :=
  .next (s.multiplyAddLong rm ra rn rd true true)

/-- UMADDL (R306). -/
def execUmaddl (rm ra rn rd : RegNum) (s : State) : Result :=
  .next (s.multiplyAddLong rm ra rn rd false false)

/-- UMSUBL (R307). -/
def execUmsubl (rm ra rn rd : RegNum) (s : State) : Result :=
  .next (s.multiplyAddLong rm ra rn rd false true)

/-- SMULH; the Ra field is ignored (R305). -/
def execSmulh (rm _ra rn rd : RegNum) (s : State) : Result :=
  .next (s.dp2 64 rm rn rd (mulHigh true))

/-- UMULH; the Ra field is ignored (R308). -/
def execUmulh (rm _ra rn rd : RegNum) (s : State) : Result :=
  .next (s.dp2 64 rm rn rd (mulHigh false))

end Sys2Proof.Machine
end

