-- ==== Sys2Proof/Machine/Logical.lean ====
section
/-! DEFINITION. Logical instructions and move wide (spec/42_logical_move.md). -/

namespace Sys2Proof.Machine

/-- The logical datapath: `f` on the operands, the second inverted or not (R200). -/
def logical (n : Nat) (f : BitVec n → BitVec n → BitVec n) (op1 op2 : BitVec n) (invert : Bool) : BitVec n :=
  f op1 (if invert then ~~~op2 else op2)

/-- ANDS and BICS: the result to Rd in zero-register mode, and the flags of the result (R200). -/
def State.wrRzLogicalFlags (s : State) {n : Nat} (rd : RegNum) (r : BitVec n) : State :=
  (s.wrRz rd r).setFlags (logicalFlags n r)

/-- The operation of a logical immediate, on the immediate its fields stand for; a pattern
DecodeBitMasks rejects is unallocated (R116, R201). -/
def logicalImmediate (i : Instr) (s : State) (n : Nat) (nBit : Bool) (imms immr : BitVec 6)
    (k : BitVec n → Result) : Result :=
  match decodeBitMasks n nBit imms immr with
  | some imm => k imm
  | none => s.raise (.unallocated · (encode i))

/-! ## Shifted register (R202 to R209) -/

/-- AND (shifted register) (R202). -/
def execAndShiftedRegister (sf : Bool) (shift : ShiftType) (rm : RegNum) (imm6 : BitVec 6) (rn rd : RegNum)
    (s : State) : Result :=
  whenWellFormed (.andShiftedRegister sf shift rm imm6 rn rd) s <|
    .next (s.wrRz rd (logical (width sf) (· &&& ·) (s.rz (width sf) rn) (s.shiftedOperand (width sf) rm shift imm6) false))

/-- BIC (shifted register) (R203). -/
def execBicShiftedRegister (sf : Bool) (shift : ShiftType) (rm : RegNum) (imm6 : BitVec 6) (rn rd : RegNum)
    (s : State) : Result :=
  whenWellFormed (.bicShiftedRegister sf shift rm imm6 rn rd) s <|
    .next (s.wrRz rd (logical (width sf) (· &&& ·) (s.rz (width sf) rn) (s.shiftedOperand (width sf) rm shift imm6) true))

/-- ORR (shifted register) (R204). -/
def execOrrShiftedRegister (sf : Bool) (shift : ShiftType) (rm : RegNum) (imm6 : BitVec 6) (rn rd : RegNum)
    (s : State) : Result :=
  whenWellFormed (.orrShiftedRegister sf shift rm imm6 rn rd) s <|
    .next (s.wrRz rd (logical (width sf) (· ||| ·) (s.rz (width sf) rn) (s.shiftedOperand (width sf) rm shift imm6) false))

/-- ORN (shifted register) (R205). -/
def execOrnShiftedRegister (sf : Bool) (shift : ShiftType) (rm : RegNum) (imm6 : BitVec 6) (rn rd : RegNum)
    (s : State) : Result :=
  whenWellFormed (.ornShiftedRegister sf shift rm imm6 rn rd) s <|
    .next (s.wrRz rd (logical (width sf) (· ||| ·) (s.rz (width sf) rn) (s.shiftedOperand (width sf) rm shift imm6) true))

/-- EOR (shifted register) (R206). -/
def execEorShiftedRegister (sf : Bool) (shift : ShiftType) (rm : RegNum) (imm6 : BitVec 6) (rn rd : RegNum)
    (s : State) : Result :=
  whenWellFormed (.eorShiftedRegister sf shift rm imm6 rn rd) s <|
    .next (s.wrRz rd (logical (width sf) (· ^^^ ·) (s.rz (width sf) rn) (s.shiftedOperand (width sf) rm shift imm6) false))

/-- EON (shifted register) (R207). -/
def execEonShiftedRegister (sf : Bool) (shift : ShiftType) (rm : RegNum) (imm6 : BitVec 6) (rn rd : RegNum)
    (s : State) : Result :=
  whenWellFormed (.eonShiftedRegister sf shift rm imm6 rn rd) s <|
    .next (s.wrRz rd (logical (width sf) (· ^^^ ·) (s.rz (width sf) rn) (s.shiftedOperand (width sf) rm shift imm6) true))

/-- ANDS (shifted register) (R208). -/
def execAndsShiftedRegister (sf : Bool) (shift : ShiftType) (rm : RegNum) (imm6 : BitVec 6) (rn rd : RegNum)
    (s : State) : Result :=
  whenWellFormed (.andsShiftedRegister sf shift rm imm6 rn rd) s <|
    .next (s.wrRzLogicalFlags rd (logical (width sf) (· &&& ·) (s.rz (width sf) rn) (s.shiftedOperand (width sf) rm shift imm6) false))

/-- BICS (shifted register) (R209). -/
def execBicsShiftedRegister (sf : Bool) (shift : ShiftType) (rm : RegNum) (imm6 : BitVec 6) (rn rd : RegNum)
    (s : State) : Result :=
  whenWellFormed (.bicsShiftedRegister sf shift rm imm6 rn rd) s <|
    .next (s.wrRzLogicalFlags rd (logical (width sf) (· &&& ·) (s.rz (width sf) rn) (s.shiftedOperand (width sf) rm shift imm6) true))

/-! ## Immediate (R210 to R213) -/

/-- AND (immediate) (R210). -/
def execAndImmediate (sf nBit : Bool) (immr imms : BitVec 6) (rn rd : RegNum) (s : State) : Result :=
  logicalImmediate (.andImmediate sf nBit immr imms rn rd) s (width sf) nBit imms immr fun imm =>
    .next (s.wrRsp rd (logical (width sf) (· &&& ·) (s.rz (width sf) rn) imm false))

/-- ORR (immediate) (R211). -/
def execOrrImmediate (sf nBit : Bool) (immr imms : BitVec 6) (rn rd : RegNum) (s : State) : Result :=
  logicalImmediate (.orrImmediate sf nBit immr imms rn rd) s (width sf) nBit imms immr fun imm =>
    .next (s.wrRsp rd (logical (width sf) (· ||| ·) (s.rz (width sf) rn) imm false))

/-- EOR (immediate) (R212). -/
def execEorImmediate (sf nBit : Bool) (immr imms : BitVec 6) (rn rd : RegNum) (s : State) : Result :=
  logicalImmediate (.eorImmediate sf nBit immr imms rn rd) s (width sf) nBit imms immr fun imm =>
    .next (s.wrRsp rd (logical (width sf) (· ^^^ ·) (s.rz (width sf) rn) imm false))

/-- ANDS (immediate) (R213). -/
def execAndsImmediate (sf nBit : Bool) (immr imms : BitVec 6) (rn rd : RegNum) (s : State) : Result :=
  logicalImmediate (.andsImmediate sf nBit immr imms rn rd) s (width sf) nBit imms immr fun imm =>
    .next (s.wrRzLogicalFlags rd (logical (width sf) (· &&& ·) (s.rz (width sf) rn) imm false))

/-! ## Move wide (R214 to R216) -/

/-- MOVN (R214). -/
def execMovn (sf : Bool) (hw : BitVec 2) (imm16 : BitVec 16) (rd : RegNum) (s : State) : Result :=
  whenWellFormed (.movn sf hw imm16 rd) s <|
    .next (s.wrRz rd (~~~moveWideImmediate (width sf) hw imm16))

/-- MOVZ (R215). -/
def execMovz (sf : Bool) (hw : BitVec 2) (imm16 : BitVec 16) (rd : RegNum) (s : State) : Result :=
  whenWellFormed (.movz sf hw imm16 rd) s <|
    .next (s.wrRz rd (moveWideImmediate (width sf) hw imm16))

/-- MOVK (R216). -/
def execMovk (sf : Bool) (hw : BitVec 2) (imm16 : BitVec 16) (rd : RegNum) (s : State) : Result :=
  whenWellFormed (.movk sf hw imm16 rd) s <|
    .next (s.wrRz rd ((s.rz (width sf) rd &&& ~~~moveWideImmediate (width sf) hw 0xFFFF#16) |||
      moveWideImmediate (width sf) hw imm16))

end Sys2Proof.Machine
end

