-- ==== Sys2Proof/Machine/System.lean ====
section
/-! DEFINITION. System instructions, hints, barriers and host traps (spec/48_system.md). -/

namespace Sys2Proof.Machine

/-! ## System register moves -/

/-- MRS Xt, NZCV (R380). -/
def execMrsNzcv (rt : RegNum) (s : State) : Result := .next (s.wrRz rt s.nzcv.toRegister)

/-- MSR NZCV, Xt (R381). -/
def execMsrNzcv (rt : RegNum) (s : State) : Result := .next (s.setFlags (Nzcv.ofRegister (s.rz 64 rt)))

/-- MRS Xt, FPCR (R382). -/
def execMrsFpcr (rt : RegNum) (s : State) : Result := .next (s.wrRz rt (s.fpcr.setWidth 64))

/-- MSR FPCR, Xt: all 32 bits are kept (R382). -/
def execMsrFpcr (rt : RegNum) (s : State) : Result := .next { s with fpcr := s.rz 32 rt }

/-- A draw from the generator: the value to Xt, all flags cleared (R383). -/
def State.rndrDraw (s : State) (rt : RegNum) : State :=
  let draw := Config.rndrNext s.rndr
  { s.wrRz rt draw.1 with rndr := draw.2, nzcv := Nzcv.clear }

/-- MRS Xt, RNDR (R383). -/
def execMrsRndr (rt : RegNum) (s : State) : Result := .next (s.rndrDraw rt)

/-- MRS Xt, RNDRRS: the same generator (R383). -/
def execMrsRndrrs (rt : RegNum) (s : State) : Result := .next (s.rndrDraw rt)

/-! ## Hints: the loop makes the BTI check (R339, R385) -/

/-- NOP (R385). -/
def execNop (s : State) : Result := .next s

/-- ESB (R385). -/
def execEsb (s : State) : Result := .next s

/-- CSDB (R385). -/
def execCsdb (s : State) : Result := .next s

/-- BTI (R385). -/
def execBti (s : State) : Result := .next s

/-- BTI c (R385). -/
def execBtiC (s : State) : Result := .next s

/-- BTI j (R385). -/
def execBtiJ (s : State) : Result := .next s

/-- BTI jc (R385). -/
def execBtiJc (s : State) : Result := .next s

/-- The pointer-authentication hints, imm7 = 7, 8, 10, 12, 14 and 24 to 31 (R385). The numbers are the
spec's; PRESUMED: the names other than PACIASP, AUTIASP and XPACLRI (log 14). -/
def pacHint? (imm7 : BitVec 7) : Option String :=
  match imm7.toNat with
  | 7 => some "XPACLRI"
  | 8 => some "PACIA1716"
  | 10 => some "PACIB1716"
  | 12 => some "AUTIA1716"
  | 14 => some "AUTIB1716"
  | 24 => some "PACIAZ"
  | 25 => some "PACIASP"
  | 26 => some "PACIBZ"
  | 27 => some "PACIBSP"
  | 28 => some "AUTIAZ"
  | 29 => some "AUTIASP"
  | 30 => some "AUTIBZ"
  | 31 => some "AUTIBSP"
  | _ => none

/-- HINT #imm7: a NOP, but for pointer authentication, which is refused (R385). -/
def execHint (imm7 : BitVec 7) (s : State) : Result :=
  match pacHint? imm7 with
  | some name => s.refuse (.pointerAuthentication · name (.instr (.hint imm7)))
  | none => .next s

/-! ## CLREX, barriers, SYS -/

/-- CLREX: only the local monitor (R80, R387). -/
def execClrex (_crm : BitVec 4) (s : State) : Result := .next s.clearLocal

/-- DSB: with one agent a fence changes no state (R82, R386). -/
def execDsb (_crm : BitVec 4) (s : State) : Result := .next s

/-- DMB (R82, R386). -/
def execDmb (_crm : BitVec 4) (s : State) : Result := .next s

/-- ISB (R82, R386). -/
def execIsb (_crm : BitVec 4) (s : State) : Result := .next s

/-- The SYS operations that write memory: DC ZVA, DC GVA, DC GZVA. PRESUMED: their numbers, and that
there are no others (log 13). -/
def isMemoryWritingSys (op1 : BitVec 3) (crn crm : BitVec 4) (op2 : BitVec 3) : Bool :=
  op1 == 3#3 && crn == 7#4 && crm == 4#4 && (op2 == 1#3 || op2 == 3#3 || op2 == 4#3)

/-- SYS: no architectural effect, but for an operation that would write memory, which is Unimplemented
(R85, R389). -/
def execSys (op1 : BitVec 3) (crn crm : BitVec 4) (op2 : BitVec 3) (rt : RegNum) (s : State) : Result :=
  if isMemoryWritingSys op1 crn crm op2 then
    s.raise (.unimplemented · (.word (encode (.sys op1 crn crm op2 rt))))
  else .next s

/-! ## Host traps -/

/-- A free value in a general register. -/
def State.freeX (s : State) (i : RegNum) : State := (s.wrRz i (Config.freeWord s.freeCount)).drawn

/-- A free value in a vector register. -/
def State.freeZ (s : State) (i : RegNum) : State := (s.wrZ i (Config.freeVector s.freeCount)).drawn

/-- A free value in a predicate register. -/
def State.freeP (s : State) (i : BitVec 4) : State := (s.wrP i (Config.freePredicate s.freeCount)).drawn

/-- Free flags. -/
def State.freeNzcv (s : State) : State :=
  (s.setFlags (Nzcv.ofBits ((Config.freeWord s.freeCount).setWidth 4))).drawn

/-- Register numbers 0 to 31. -/
def allRegNums : List RegNum := (List.range 32).map (BitVec.ofNat 5)

/-- Predicate register numbers 0 to 15. -/
def allPredNums : List (BitVec 4) := (List.range 16).map (BitVec.ofNat 4)

/-- The caller-saved general registers: X0 to X18 and X30. PRESUMED: the procedure call standard
(log 12). -/
def callerSavedX : List RegNum := ((List.range 19).map (BitVec.ofNat 5)) ++ [30#5]

/-- The caller-saved vector registers: V0 to V7 and V16 to V31. PRESUMED (log 12). -/
def callerSavedV : List RegNum :=
  ((List.range 8).map (BitVec.ofNat 5)) ++ ((List.range 16).map fun i => BitVec.ofNat 5 (i + 16))

/-- The vector registers of which a call keeps the low 64 bits: V8 to V15. PRESUMED (log 12). -/
def calleeSavedV : List RegNum := (List.range 8).map fun i => BitVec.ofNat 5 (i + 8)

/-- A free value in the bits of a vector register above its low 64. -/
def State.freeTop (s : State) (i : RegNum) : State :=
  let low : BitVec 2048 := (BitVec.allOnes 64).setWidth 2048
  (s.wrZ i ((s.zReg i &&& low) ||| (Config.freeVector s.freeCount &&& ~~~low))).drawn

/-- Every register a call may change: caller-saved general and vector registers, the tops of V8 to V15
and every predicate register. PRESUMED: the procedure call standard (log 12). -/
def State.freeCallerSaved (s : State) : State :=
  allPredNums.foldl State.freeP
    (calleeSavedV.foldl State.freeTop (callerSavedV.foldl State.freeZ (callerSavedX.foldl State.freeX s)))

/-- What `kPrintf` leaves: the caller-saved registers and the flags are not stated, so free (R392). -/
def State.afterPrintf (s : State) : State := s.freeCallerSaved.freeNzcv

/-- A free SP. -/
def State.freeSp (s : State) : State := { s with sp := Config.freeWord s.freeCount }.drawn

/-- A free FPCR. -/
def State.freeFpcr (s : State) : State := { s with fpcr := (Config.freeWord s.freeCount).setWidth 32 }.drawn

/-- A free memory image. -/
def State.freeMem (s : State) : State := { s with mem := Memory.ofCells (Config.freeMemory s.freeCount) }.drawn

/-- Every general, vector and predicate register free. -/
def State.freeRegisters (s : State) : State :=
  allPredNums.foldl State.freeP (allRegNums.foldl State.freeZ (allRegNums.foldl State.freeX s))

/-- What `kRuntimeCall` leaves: "any register or memory change is possible" (R392). -/
def State.afterRuntimeCall (s : State) : State := s.freeRegisters.freeNzcv.freeSp.freeFpcr.freeMem

/-- A feature set with features added, each once. -/
def addFeatures (fs gs : List Feature) : List Feature :=
  gs.foldl (fun acc f => if acc.contains f then acc else acc ++ [f]) fs

/-- The feature set after `kRestoreCPUFeatures`: a free value, because the stack it comes from is no state
of the machine (R52, R392, log 4). The host's own side, Simulator, keeps that stack. -/
def State.restoreFeatures (s : State) : State :=
  { s with features := Config.freeFeatures s.freeCount }.drawn

/-- The feature an entry of a list stands for (log 12). -/
def featureOf (l : FeatureListLayout) (code : Nat) : Feature :=
  match l.codes.find? fun e => e.1 == code with
  | some e => e.2
  | none => .other code

/-- The entries of a feature list at `addr`, up to the sentinel 'None' (R392). DESIGN CHOICE: `none`, which
aborts, where the list leaves the memory image or has no end within the limit (log 12). -/
def State.featureCodes (s : State) (l : FeatureListLayout) (addr : Word) : (limit : Nat) → Option (List Nat)
  | 0 => none
  | limit + 1 =>
    if s.memValid addr l.entryBytes then
      let code := (s.memRead addr l.entryBytes).toNat
      if code = l.none then some []
      else (s.featureCodes l (addr + BitVec.ofNat 64 l.entryBytes) limit).map (code :: ·)
    else none

/-- The words of a parameter block that holds a list of `n` entries and its sentinel, the last word
filled up. -/
def listWords (l : FeatureListLayout) (n : Nat) : Nat := (l.offset - 4 + (n + 1) * l.entryBytes + 3) / 4

/-- The feature list in the parameter block behind the instruction at PC, and the length of the block in
words (R392). -/
def State.featureList (s : State) : Option (List Feature × Nat) :=
  let l := s.platform.featureList
  (s.featureCodes l (s.pc + BitVec.ofNat 64 l.offset) l.limit).map fun codes =>
    (codes.map (featureOf l), listWords l codes.length)

/-- What of a host's answer `t` the machine takes: registers, flags, generator, memory, monitors and
features, each cut to its own form; the parameters, the status and the loop's own state stay (R392). -/
def State.takeHost (s t : State) : State :=
  { s with
    x := t.x
    sp := t.sp
    nzcv := t.nzcv
    fpcr := t.fpcr
    rndr := t.rndr
    z := t.z.map (· &&& s.zMask)
    p := t.p.map (· &&& s.pMask)
    mem := Memory.ofCells t.mem
    localMonitor := t.localMonitor
    globalMonitor := t.globalMonitor
    features := t.features }

/-- A service that changes the feature set by the list in its block: "only `Features` changes" (R392). -/
def State.withFeatureList (s : State) (f : List Feature → List Feature) : Option (State × Nat) :=
  s.featureList.map fun r => ({ s with features := f r.1 }, r.2)

/-- The state a host service leaves and the words of its parameter block; `none` is Abort (R392). The
blocks of fixed length, those of `kSaveCPUFeatures` and `kRestoreCPUFeatures` among them, take theirs from
the parameter, as R392 gives none. Whether a service other than the feature lists stops where its block, or
the format string at X0, leaves the memory image is open too: the model checks nothing and goes on. Both are
DESIGN CHOICES (log 12). -/
def State.hostEffect (s : State) (imm16 : BitVec 16) : HostService → Option (State × Nat)
  | .unreachable => none
  | .trace words => some (s, words)
  | .log words => some (s, words)
  | .printf words => some (s.afterPrintf, words)
  | .runtimeCall words => some (s.afterRuntimeCall, words)
  | .setFeatures => s.withFeatureList fun fs => addFeatures [] fs
  | .enableFeatures => s.withFeatureList fun fs => addFeatures s.features fs
  | .disableFeatures => s.withFeatureList fun fs => s.features.filter fun f => !fs.contains f
  | .saveFeatures words => some (s, words)
  | .restoreFeatures words => some (s.restoreFeatures, words)
  | .unnamed => (openHostTrap imm16 s).map fun r => (s.takeHost r.1, r.2)

/-- The service an immediate stands for (R392). -/
def State.serviceOf (s : State) (imm16 : BitVec 16) : Option HostService :=
  (s.platform.hostServices.find? fun e => e.1 == imm16).map Prod.snd

/-- `HostTrap(imm16, state)` (R392). -/
def State.hostTrap (s : State) (imm16 : BitVec 16) : Option (State × Nat) :=
  (s.serviceOf imm16).bind (s.hostEffect imm16)

/-- PC behind the parameter block of an HLT: "p = PC + 4 + payload length" (R392). DEDUCED: a block is
whole words, for R464 names only register branches and ENTRY as causes of a misaligned PC (log 12). -/
def State.behindBlock (s : State) (words : Nat) : Word := s.pc + 4#64 + BitVec.ofNat 64 (4 * words)

/-- HLT: after a service, execution goes on behind its parameter block (R392; whole words, log 12). -/
def execHlt (imm16 : BitVec 16) (s : State) : Result :=
  match s.hostTrap imm16 with
  | some (t, words) => .next (t.branchTo (s.behindBlock words))
  | none => s.raise (.hostTrapAbort · imm16)

/-- UDF (R390). -/
def execUdf (imm16 : BitVec 16) (s : State) : Result := s.raise (.udf · imm16)

end Sys2Proof.Machine
end

