-- ==== Sys2Proof/Machine/Dispatch.lean ====
section
/-! DEFINITION. Which meaning each instruction has: one arm per constructor of Instr. -/

namespace Sys2Proof.Machine

/-- The instruction's own effect; the loop around it is Sys2Proof.Machine.step (R320). -/
def exec (i : Instr) (s : State) : Host.Outcome State Fault Refusal :=
  match i with
  | .addImmediate sf sh imm12 rn rd => Sys2Proof.Machine.execAddImmediate sf sh imm12 rn rd s
  | .addsImmediate sf sh imm12 rn rd => Sys2Proof.Machine.execAddsImmediate sf sh imm12 rn rd s
  | .subImmediate sf sh imm12 rn rd => Sys2Proof.Machine.execSubImmediate sf sh imm12 rn rd s
  | .subsImmediate sf sh imm12 rn rd => Sys2Proof.Machine.execSubsImmediate sf sh imm12 rn rd s
  | .addShiftedRegister sf shift rm imm6 rn rd => Sys2Proof.Machine.execAddShiftedRegister sf shift rm imm6 rn rd s
  | .addsShiftedRegister sf shift rm imm6 rn rd => Sys2Proof.Machine.execAddsShiftedRegister sf shift rm imm6 rn rd s
  | .subShiftedRegister sf shift rm imm6 rn rd => Sys2Proof.Machine.execSubShiftedRegister sf shift rm imm6 rn rd s
  | .subsShiftedRegister sf shift rm imm6 rn rd => Sys2Proof.Machine.execSubsShiftedRegister sf shift rm imm6 rn rd s
  | .addExtendedRegister sf rm ext imm3 rn rd => Sys2Proof.Machine.execAddExtendedRegister sf rm ext imm3 rn rd s
  | .addsExtendedRegister sf rm ext imm3 rn rd => Sys2Proof.Machine.execAddsExtendedRegister sf rm ext imm3 rn rd s
  | .subExtendedRegister sf rm ext imm3 rn rd => Sys2Proof.Machine.execSubExtendedRegister sf rm ext imm3 rn rd s
  | .subsExtendedRegister sf rm ext imm3 rn rd => Sys2Proof.Machine.execSubsExtendedRegister sf rm ext imm3 rn rd s
  | .adc sf rm rn rd => Sys2Proof.Machine.execAdc sf rm rn rd s
  | .adcs sf rm rn rd => Sys2Proof.Machine.execAdcs sf rm rn rd s
  | .sbc sf rm rn rd => Sys2Proof.Machine.execSbc sf rm rn rd s
  | .sbcs sf rm rn rd => Sys2Proof.Machine.execSbcs sf rm rn rd s
  | .andShiftedRegister sf shift rm imm6 rn rd => Sys2Proof.Machine.execAndShiftedRegister sf shift rm imm6 rn rd s
  | .bicShiftedRegister sf shift rm imm6 rn rd => Sys2Proof.Machine.execBicShiftedRegister sf shift rm imm6 rn rd s
  | .orrShiftedRegister sf shift rm imm6 rn rd => Sys2Proof.Machine.execOrrShiftedRegister sf shift rm imm6 rn rd s
  | .ornShiftedRegister sf shift rm imm6 rn rd => Sys2Proof.Machine.execOrnShiftedRegister sf shift rm imm6 rn rd s
  | .eorShiftedRegister sf shift rm imm6 rn rd => Sys2Proof.Machine.execEorShiftedRegister sf shift rm imm6 rn rd s
  | .eonShiftedRegister sf shift rm imm6 rn rd => Sys2Proof.Machine.execEonShiftedRegister sf shift rm imm6 rn rd s
  | .andsShiftedRegister sf shift rm imm6 rn rd => Sys2Proof.Machine.execAndsShiftedRegister sf shift rm imm6 rn rd s
  | .bicsShiftedRegister sf shift rm imm6 rn rd => Sys2Proof.Machine.execBicsShiftedRegister sf shift rm imm6 rn rd s
  | .andImmediate sf nBit immr imms rn rd => Sys2Proof.Machine.execAndImmediate sf nBit immr imms rn rd s
  | .orrImmediate sf nBit immr imms rn rd => Sys2Proof.Machine.execOrrImmediate sf nBit immr imms rn rd s
  | .eorImmediate sf nBit immr imms rn rd => Sys2Proof.Machine.execEorImmediate sf nBit immr imms rn rd s
  | .andsImmediate sf nBit immr imms rn rd => Sys2Proof.Machine.execAndsImmediate sf nBit immr imms rn rd s
  | .movn sf hw imm16 rd => Sys2Proof.Machine.execMovn sf hw imm16 rd s
  | .movz sf hw imm16 rd => Sys2Proof.Machine.execMovz sf hw imm16 rd s
  | .movk sf hw imm16 rd => Sys2Proof.Machine.execMovk sf hw imm16 rd s
  | .ccmnRegister sf rm cond rn nzcv => Sys2Proof.Machine.execCcmnRegister sf rm cond rn nzcv s
  | .ccmpRegister sf rm cond rn nzcv => Sys2Proof.Machine.execCcmpRegister sf rm cond rn nzcv s
  | .ccmnImmediate sf imm5 cond rn nzcv => Sys2Proof.Machine.execCcmnImmediate sf imm5 cond rn nzcv s
  | .ccmpImmediate sf imm5 cond rn nzcv => Sys2Proof.Machine.execCcmpImmediate sf imm5 cond rn nzcv s
  | .csel sf rm cond rn rd => Sys2Proof.Machine.execCsel sf rm cond rn rd s
  | .csinc sf rm cond rn rd => Sys2Proof.Machine.execCsinc sf rm cond rn rd s
  | .csinv sf rm cond rn rd => Sys2Proof.Machine.execCsinv sf rm cond rn rd s
  | .csneg sf rm cond rn rd => Sys2Proof.Machine.execCsneg sf rm cond rn rd s
  | .sbfm sf nBit immr imms rn rd => Sys2Proof.Machine.execSbfm sf nBit immr imms rn rd s
  | .bfm sf nBit immr imms rn rd => Sys2Proof.Machine.execBfm sf nBit immr imms rn rd s
  | .ubfm sf nBit immr imms rn rd => Sys2Proof.Machine.execUbfm sf nBit immr imms rn rd s
  | .extr sf nBit rm imms rn rd => Sys2Proof.Machine.execExtr sf nBit rm imms rn rd s
  | .rbit sf rn rd => Sys2Proof.Machine.execRbit sf rn rd s
  | .rev16 sf rn rd => Sys2Proof.Machine.execRev16 sf rn rd s
  | .revW rn rd => Sys2Proof.Machine.execRevW rn rd s
  | .rev32 rn rd => Sys2Proof.Machine.execRev32 rn rd s
  | .revX rn rd => Sys2Proof.Machine.execRevX rn rd s
  | .clz sf rn rd => Sys2Proof.Machine.execClz sf rn rd s
  | .cls sf rn rd => Sys2Proof.Machine.execCls sf rn rd s
  | .udiv sf rm rn rd => Sys2Proof.Machine.execUdiv sf rm rn rd s
  | .sdiv sf rm rn rd => Sys2Proof.Machine.execSdiv sf rm rn rd s
  | .lslv sf rm rn rd => Sys2Proof.Machine.execLslv sf rm rn rd s
  | .lsrv sf rm rn rd => Sys2Proof.Machine.execLsrv sf rm rn rd s
  | .asrv sf rm rn rd => Sys2Proof.Machine.execAsrv sf rm rn rd s
  | .rorv sf rm rn rd => Sys2Proof.Machine.execRorv sf rm rn rd s
  | .crc32b rm rn rd => Sys2Proof.Machine.execCrc32b rm rn rd s
  | .crc32h rm rn rd => Sys2Proof.Machine.execCrc32h rm rn rd s
  | .crc32w rm rn rd => Sys2Proof.Machine.execCrc32w rm rn rd s
  | .crc32x rm rn rd => Sys2Proof.Machine.execCrc32x rm rn rd s
  | .crc32cb rm rn rd => Sys2Proof.Machine.execCrc32cb rm rn rd s
  | .crc32ch rm rn rd => Sys2Proof.Machine.execCrc32ch rm rn rd s
  | .crc32cw rm rn rd => Sys2Proof.Machine.execCrc32cw rm rn rd s
  | .crc32cx rm rn rd => Sys2Proof.Machine.execCrc32cx rm rn rd s
  | .madd sf rm ra rn rd => Sys2Proof.Machine.execMadd sf rm ra rn rd s
  | .msub sf rm ra rn rd => Sys2Proof.Machine.execMsub sf rm ra rn rd s
  | .smaddl rm ra rn rd => Sys2Proof.Machine.execSmaddl rm ra rn rd s
  | .smsubl rm ra rn rd => Sys2Proof.Machine.execSmsubl rm ra rn rd s
  | .smulh rm ra rn rd => Sys2Proof.Machine.execSmulh rm ra rn rd s
  | .umaddl rm ra rn rd => Sys2Proof.Machine.execUmaddl rm ra rn rd s
  | .umsubl rm ra rn rd => Sys2Proof.Machine.execUmsubl rm ra rn rd s
  | .umulh rm ra rn rd => Sys2Proof.Machine.execUmulh rm ra rn rd s
  | .adr immlo immhi rd => Sys2Proof.Machine.execAdr immlo immhi rd s
  | .adrp immlo immhi rd => Sys2Proof.Machine.execAdrp immlo immhi rd s
  | .b imm26 => Sys2Proof.Machine.execB imm26 s
  | .bl imm26 => Sys2Proof.Machine.execBl imm26 s
  | .bCond imm19 cond => Sys2Proof.Machine.execBCond imm19 cond s
  | .cbz sf imm19 rt => Sys2Proof.Machine.execCbz sf imm19 rt s
  | .cbnz sf imm19 rt => Sys2Proof.Machine.execCbnz sf imm19 rt s
  | .tbz b5 b40 imm14 rt => Sys2Proof.Machine.execTbz b5 b40 imm14 rt s
  | .tbnz b5 b40 imm14 rt => Sys2Proof.Machine.execTbnz b5 b40 imm14 rt s
  | .br rn => Sys2Proof.Machine.execBr rn s
  | .blr rn => Sys2Proof.Machine.execBlr rn s
  | .ret rn => Sys2Proof.Machine.execRet rn s
  | .mrsNzcv rt => Sys2Proof.Machine.execMrsNzcv rt s
  | .msrNzcv rt => Sys2Proof.Machine.execMsrNzcv rt s
  | .mrsFpcr rt => Sys2Proof.Machine.execMrsFpcr rt s
  | .msrFpcr rt => Sys2Proof.Machine.execMsrFpcr rt s
  | .mrsRndr rt => Sys2Proof.Machine.execMrsRndr rt s
  | .mrsRndrrs rt => Sys2Proof.Machine.execMrsRndrrs rt s
  | .nop => Sys2Proof.Machine.execNop s
  | .esb => Sys2Proof.Machine.execEsb s
  | .csdb => Sys2Proof.Machine.execCsdb s
  | .bti => Sys2Proof.Machine.execBti s
  | .btiC => Sys2Proof.Machine.execBtiC s
  | .btiJ => Sys2Proof.Machine.execBtiJ s
  | .btiJc => Sys2Proof.Machine.execBtiJc s
  | .hint imm7 => Sys2Proof.Machine.execHint imm7 s
  | .clrex crm => Sys2Proof.Machine.execClrex crm s
  | .dsb crm => Sys2Proof.Machine.execDsb crm s
  | .dmb crm => Sys2Proof.Machine.execDmb crm s
  | .isb crm => Sys2Proof.Machine.execIsb crm s
  | .sys op1 crn crm op2 rt => Sys2Proof.Machine.execSys op1 crn crm op2 rt s
  | .hlt imm16 => Sys2Proof.Machine.execHlt imm16 s
  | .udf imm16 => Sys2Proof.Machine.execUdf imm16 s
  | .strbUnsignedOffset imm12 rn rt => Sys2Proof.Machine.execStrbUnsignedOffset imm12 rn rt s
  | .sturb imm9 rn rt => Sys2Proof.Machine.execSturb imm9 rn rt s
  | .strbPostIndex imm9 rn rt => Sys2Proof.Machine.execStrbPostIndex imm9 rn rt s
  | .strbPreIndex imm9 rn rt => Sys2Proof.Machine.execStrbPreIndex imm9 rn rt s
  | .strbRegisterOffset rm ext scaled rn rt => Sys2Proof.Machine.execStrbRegisterOffset rm ext scaled rn rt s
  | .ldrbUnsignedOffset imm12 rn rt => Sys2Proof.Machine.execLdrbUnsignedOffset imm12 rn rt s
  | .ldurb imm9 rn rt => Sys2Proof.Machine.execLdurb imm9 rn rt s
  | .ldrbPostIndex imm9 rn rt => Sys2Proof.Machine.execLdrbPostIndex imm9 rn rt s
  | .ldrbPreIndex imm9 rn rt => Sys2Proof.Machine.execLdrbPreIndex imm9 rn rt s
  | .ldrbRegisterOffset rm ext scaled rn rt => Sys2Proof.Machine.execLdrbRegisterOffset rm ext scaled rn rt s
  | .strhUnsignedOffset imm12 rn rt => Sys2Proof.Machine.execStrhUnsignedOffset imm12 rn rt s
  | .sturh imm9 rn rt => Sys2Proof.Machine.execSturh imm9 rn rt s
  | .strhPostIndex imm9 rn rt => Sys2Proof.Machine.execStrhPostIndex imm9 rn rt s
  | .strhPreIndex imm9 rn rt => Sys2Proof.Machine.execStrhPreIndex imm9 rn rt s
  | .strhRegisterOffset rm ext scaled rn rt => Sys2Proof.Machine.execStrhRegisterOffset rm ext scaled rn rt s
  | .ldrhUnsignedOffset imm12 rn rt => Sys2Proof.Machine.execLdrhUnsignedOffset imm12 rn rt s
  | .ldurh imm9 rn rt => Sys2Proof.Machine.execLdurh imm9 rn rt s
  | .ldrhPostIndex imm9 rn rt => Sys2Proof.Machine.execLdrhPostIndex imm9 rn rt s
  | .ldrhPreIndex imm9 rn rt => Sys2Proof.Machine.execLdrhPreIndex imm9 rn rt s
  | .ldrhRegisterOffset rm ext scaled rn rt => Sys2Proof.Machine.execLdrhRegisterOffset rm ext scaled rn rt s
  | .strWUnsignedOffset imm12 rn rt => Sys2Proof.Machine.execStrWUnsignedOffset imm12 rn rt s
  | .sturW imm9 rn rt => Sys2Proof.Machine.execSturW imm9 rn rt s
  | .strWPostIndex imm9 rn rt => Sys2Proof.Machine.execStrWPostIndex imm9 rn rt s
  | .strWPreIndex imm9 rn rt => Sys2Proof.Machine.execStrWPreIndex imm9 rn rt s
  | .strWRegisterOffset rm ext scaled rn rt => Sys2Proof.Machine.execStrWRegisterOffset rm ext scaled rn rt s
  | .ldrWUnsignedOffset imm12 rn rt => Sys2Proof.Machine.execLdrWUnsignedOffset imm12 rn rt s
  | .ldurW imm9 rn rt => Sys2Proof.Machine.execLdurW imm9 rn rt s
  | .ldrWPostIndex imm9 rn rt => Sys2Proof.Machine.execLdrWPostIndex imm9 rn rt s
  | .ldrWPreIndex imm9 rn rt => Sys2Proof.Machine.execLdrWPreIndex imm9 rn rt s
  | .ldrWRegisterOffset rm ext scaled rn rt => Sys2Proof.Machine.execLdrWRegisterOffset rm ext scaled rn rt s
  | .strXUnsignedOffset imm12 rn rt => Sys2Proof.Machine.execStrXUnsignedOffset imm12 rn rt s
  | .sturX imm9 rn rt => Sys2Proof.Machine.execSturX imm9 rn rt s
  | .strXPostIndex imm9 rn rt => Sys2Proof.Machine.execStrXPostIndex imm9 rn rt s
  | .strXPreIndex imm9 rn rt => Sys2Proof.Machine.execStrXPreIndex imm9 rn rt s
  | .strXRegisterOffset rm ext scaled rn rt => Sys2Proof.Machine.execStrXRegisterOffset rm ext scaled rn rt s
  | .ldrXUnsignedOffset imm12 rn rt => Sys2Proof.Machine.execLdrXUnsignedOffset imm12 rn rt s
  | .ldurX imm9 rn rt => Sys2Proof.Machine.execLdurX imm9 rn rt s
  | .ldrXPostIndex imm9 rn rt => Sys2Proof.Machine.execLdrXPostIndex imm9 rn rt s
  | .ldrXPreIndex imm9 rn rt => Sys2Proof.Machine.execLdrXPreIndex imm9 rn rt s
  | .ldrXRegisterOffset rm ext scaled rn rt => Sys2Proof.Machine.execLdrXRegisterOffset rm ext scaled rn rt s
  | .ldrsbXUnsignedOffset imm12 rn rt => Sys2Proof.Machine.execLdrsbXUnsignedOffset imm12 rn rt s
  | .ldursbX imm9 rn rt => Sys2Proof.Machine.execLdursbX imm9 rn rt s
  | .ldrsbXPostIndex imm9 rn rt => Sys2Proof.Machine.execLdrsbXPostIndex imm9 rn rt s
  | .ldrsbXPreIndex imm9 rn rt => Sys2Proof.Machine.execLdrsbXPreIndex imm9 rn rt s
  | .ldrsbXRegisterOffset rm ext scaled rn rt => Sys2Proof.Machine.execLdrsbXRegisterOffset rm ext scaled rn rt s
  | .ldrsbWUnsignedOffset imm12 rn rt => Sys2Proof.Machine.execLdrsbWUnsignedOffset imm12 rn rt s
  | .ldursbW imm9 rn rt => Sys2Proof.Machine.execLdursbW imm9 rn rt s
  | .ldrsbWPostIndex imm9 rn rt => Sys2Proof.Machine.execLdrsbWPostIndex imm9 rn rt s
  | .ldrsbWPreIndex imm9 rn rt => Sys2Proof.Machine.execLdrsbWPreIndex imm9 rn rt s
  | .ldrsbWRegisterOffset rm ext scaled rn rt => Sys2Proof.Machine.execLdrsbWRegisterOffset rm ext scaled rn rt s
  | .ldrshXUnsignedOffset imm12 rn rt => Sys2Proof.Machine.execLdrshXUnsignedOffset imm12 rn rt s
  | .ldurshX imm9 rn rt => Sys2Proof.Machine.execLdurshX imm9 rn rt s
  | .ldrshXPostIndex imm9 rn rt => Sys2Proof.Machine.execLdrshXPostIndex imm9 rn rt s
  | .ldrshXPreIndex imm9 rn rt => Sys2Proof.Machine.execLdrshXPreIndex imm9 rn rt s
  | .ldrshXRegisterOffset rm ext scaled rn rt => Sys2Proof.Machine.execLdrshXRegisterOffset rm ext scaled rn rt s
  | .ldrshWUnsignedOffset imm12 rn rt => Sys2Proof.Machine.execLdrshWUnsignedOffset imm12 rn rt s
  | .ldurshW imm9 rn rt => Sys2Proof.Machine.execLdurshW imm9 rn rt s
  | .ldrshWPostIndex imm9 rn rt => Sys2Proof.Machine.execLdrshWPostIndex imm9 rn rt s
  | .ldrshWPreIndex imm9 rn rt => Sys2Proof.Machine.execLdrshWPreIndex imm9 rn rt s
  | .ldrshWRegisterOffset rm ext scaled rn rt => Sys2Proof.Machine.execLdrshWRegisterOffset rm ext scaled rn rt s
  | .ldrswUnsignedOffset imm12 rn rt => Sys2Proof.Machine.execLdrswUnsignedOffset imm12 rn rt s
  | .ldursw imm9 rn rt => Sys2Proof.Machine.execLdursw imm9 rn rt s
  | .ldrswPostIndex imm9 rn rt => Sys2Proof.Machine.execLdrswPostIndex imm9 rn rt s
  | .ldrswPreIndex imm9 rn rt => Sys2Proof.Machine.execLdrswPreIndex imm9 rn rt s
  | .ldrswRegisterOffset rm ext scaled rn rt => Sys2Proof.Machine.execLdrswRegisterOffset rm ext scaled rn rt s
  | .stpWOffset imm7 rt2 rn rt => Sys2Proof.Machine.execStpWOffset imm7 rt2 rn rt s
  | .stpWPostIndex imm7 rt2 rn rt => Sys2Proof.Machine.execStpWPostIndex imm7 rt2 rn rt s
  | .stpWPreIndex imm7 rt2 rn rt => Sys2Proof.Machine.execStpWPreIndex imm7 rt2 rn rt s
  | .ldpWOffset imm7 rt2 rn rt => Sys2Proof.Machine.execLdpWOffset imm7 rt2 rn rt s
  | .ldpWPostIndex imm7 rt2 rn rt => Sys2Proof.Machine.execLdpWPostIndex imm7 rt2 rn rt s
  | .ldpWPreIndex imm7 rt2 rn rt => Sys2Proof.Machine.execLdpWPreIndex imm7 rt2 rn rt s
  | .stpXOffset imm7 rt2 rn rt => Sys2Proof.Machine.execStpXOffset imm7 rt2 rn rt s
  | .stpXPostIndex imm7 rt2 rn rt => Sys2Proof.Machine.execStpXPostIndex imm7 rt2 rn rt s
  | .stpXPreIndex imm7 rt2 rn rt => Sys2Proof.Machine.execStpXPreIndex imm7 rt2 rn rt s
  | .ldpXOffset imm7 rt2 rn rt => Sys2Proof.Machine.execLdpXOffset imm7 rt2 rn rt s
  | .ldpXPostIndex imm7 rt2 rn rt => Sys2Proof.Machine.execLdpXPostIndex imm7 rt2 rn rt s
  | .ldpXPreIndex imm7 rt2 rn rt => Sys2Proof.Machine.execLdpXPreIndex imm7 rt2 rn rt s
  | .ldrWLiteral imm19 rt => Sys2Proof.Machine.execLdrWLiteral imm19 rt s
  | .ldrXLiteral imm19 rt => Sys2Proof.Machine.execLdrXLiteral imm19 rt s
  | .ldrswLiteral imm19 rt => Sys2Proof.Machine.execLdrswLiteral imm19 rt s
  | .ldxr size rn rt => Sys2Proof.Machine.execLdxr size rn rt s
  | .ldaxr size rn rt => Sys2Proof.Machine.execLdaxr size rn rt s
  | .stxr size rs rn rt => Sys2Proof.Machine.execStxr size rs rn rt s
  | .stlxr size rs rn rt => Sys2Proof.Machine.execStlxr size rs rn rt s
  | .ldar size rn rt => Sys2Proof.Machine.execLdar size rn rt s
  | .stlr size rn rt => Sys2Proof.Machine.execStlr size rn rt s
  | .cas size acq rs rel rn rt => Sys2Proof.Machine.execCas size acq rs rel rn rt s
  | .swp size acq rel rs rn rt => Sys2Proof.Machine.execSwp size acq rel rs rn rt s
  | .ldadd size acq rel rs rn rt => Sys2Proof.Machine.execLdadd size acq rel rs rn rt s
  | .ldclr size acq rel rs rn rt => Sys2Proof.Machine.execLdclr size acq rel rs rn rt s
  | .ldeor size acq rel rs rn rt => Sys2Proof.Machine.execLdeor size acq rel rs rn rt s
  | .ldset size acq rel rs rn rt => Sys2Proof.Machine.execLdset size acq rel rs rn rt s
  | .ldsmax size acq rel rs rn rt => Sys2Proof.Machine.execLdsmax size acq rel rs rn rt s
  | .ldsmin size acq rel rs rn rt => Sys2Proof.Machine.execLdsmin size acq rel rs rn rt s
  | .ldumax size acq rel rs rn rt => Sys2Proof.Machine.execLdumax size acq rel rs rn rt s
  | .ldumin size acq rel rs rn rt => Sys2Proof.Machine.execLdumin size acq rel rs rn rt s
  | .ldapr size rn rt => Sys2Proof.Machine.execLdapr size rn rt s

end Sys2Proof.Machine
end

