-- ==== Sys2Proof/Machine/Vector.lean ====
section
/-! DEFINITION. Vector registers by lane (spec/10_state.md R38; spec/49_fp_simd_sve.md R409, R412) and the
checks of native commands. -/

namespace Sys2Proof.Machine

/-- A native command whose fields break its form is unallocated; the fault records the word the
decoder was given (R91, R367, R455). -/
def whenNative (c : NativeCmd) (s : State) (k : Result) : Result :=
  if c.wellFormed then k else s.raise (.unallocated · s.fetchWord)

/-- `V[i]` (R38). -/
def State.vReg (s : State) (i : RegNum) : BitVec 128 := (s.zReg i).setWidth 128

/-- Lane `k` of `w` bits of a register (R38). -/
def State.lane (s : State) (w : Nat) (i : RegNum) (k : Nat) : BitVec w := (s.zReg i).extractLsb' (w * k) w

/-- The string of lanes `f 0`, ..., `f (n - 1)`, lane 0 lowest. -/
def ofLanes (w : Nat) (f : Nat → BitVec w) : (n : Nat) → BitVec (w * n)
  | 0 => 0#0
  | k + 1 => (f k ++ ofLanes w f k).cast (by rw [Nat.mul_succ, Nat.add_comm])

/-- A write of `V[i]`; the bits above 127 take any value (U20, R361, R409, log 20). -/
def State.wrV (s : State) (i : RegNum) (v : BitVec 128) : State :=
  let low : BitVec 2048 := (BitVec.allOnes 128).setWidth 2048
  (s.wrZ i (v.setWidth 2048 ||| (Config.freeVector s.freeCount &&& ~~~low))).drawn

/-- Lanes of a shape (R412). -/
def laneCount (shape : LaneShape) (w : Nat) : Nat :=
  match shape with
  | .scalar => 1
  | .half => 64 / w
  | .full => 128 / w

/-- A write of every lane of a shape; the rest of the low 128 bits is cleared (R409, R412). -/
def State.wrLanes (s : State) (w : Nat) (shape : LaneShape) (vd : RegNum) (f : Nat → BitVec w) : State :=
  s.wrV vd ((ofLanes w f (laneCount shape w)).setWidth 128)

end Sys2Proof.Machine
end

