-- ==== Sys2Proof/Machine/NativeLoadStore.lean ====
section
/-! DEFINITION. Loads and stores that exist only as native commands: LDPSW, the exclusive pairs, CASP,
LDAPUR, STLUR, and the vector registers (spec/47_loadstore.md R359 to R372). -/

namespace Sys2Proof.Machine

/-! ## Addressing -/

/-- Bytes of a vector access (R355). -/
def vecBytes : VecSize → Nat
  | .b => 1
  | .h => 2
  | .s => 4
  | .d => 8
  | .q => 16

/-- The address of an access and what is written back to the base (R351, R352). -/
def State.modeAddress (s : State) (rn : RegNum) (size : Nat) : AddrMode → Word × Option Word
  | .unsigned imm12 => (s.unsignedAddress rn imm12 size, none)
  | .unscaled imm9 => (s.unscaledAddress rn imm9, none)
  | .post imm9 => (s.base rn, some (s.unscaledAddress rn imm9))
  | .pre imm9 => (s.unscaledAddress rn imm9, some (s.unscaledAddress rn imm9))
  | .register rm ext scaled => (s.registerAddress rn rm ext scaled size, none)

/-- The same of a pair access (R351, R359). -/
def State.pairModeAddress (s : State) (rn : RegNum) (size : Nat) : PairMode → Word × Option Word
  | .offset imm7 => (s.pairAddress rn imm7 size, none)
  | .post imm7 => (s.base rn, some (s.pairAddress rn imm7 size))
  | .pre imm7 => (s.pairAddress rn imm7 size, some (s.pairAddress rn imm7 size))

/-- Write-back, where the mode has one (R351). -/
def State.writeBack (s : State) (rn : RegNum) : Option Word → State
  | none => s
  | some v => s.wrRsp rn v

/-! ## Integer members -/

/-- LDPSW: two words, each sign-extended (R359). -/
def execLdpsw (mode : PairMode) (rt2 rn rt : RegNum) (s : State) : Result :=
  match mode with
  | .offset imm7 =>
    s.loadPair (.native (.ldpsw mode rt2 rn rt)) rn rt rt2 (s.pairAddress rn imm7 4) 4 true 64
  | .post imm7 =>
    s.loadPairIndexed (.native (.ldpsw mode rt2 rn rt)) rn rt rt2 (s.base rn) (s.pairAddress rn imm7 4) 4 true 64
  | .pre imm7 =>
    s.loadPairIndexed (.native (.ldpsw mode rt2 rn rt)) rn rt rt2 (s.pairAddress rn imm7 4)
      (s.pairAddress rn imm7 4) 4 true 64

/-- Bytes of an element of an exclusive pair or CASP: 4 or 8. -/
def elementBytes (sf : Bool) : Nat := if sf then 8 else 4

/-- LDXP, LDAXP: the monitors take the whole interval (R363). -/
def execLdxp (sf acq : Bool) (rt2 rn rt : RegNum) (s : State) : Result :=
  s.checkLoadPair (.native (.ldxp sf acq rt2 rn rt)) rt rt2 <| s.checkAtomic rn (2 * elementBytes sf) <|
    .next ((s.loadPairTo (s.base rn) (elementBytes sf) false (width sf) rt rt2).markExclusive (s.base rn)
      (2 * elementBytes sf))

/-- STXP, STLXP (R364). -/
def execStxp (sf rel : Bool) (rs rt2 rn rt : RegNum) (s : State) : Result :=
  s.checkStatusRegister (.native (.stxp sf rel rs rt2 rn rt)) rs rn rt <|
  s.checkStatusRegister (.native (.stxp sf rel rs rt2 rn rt)) rs rn rt2 <|
    s.checkAtomic rn (2 * elementBytes sf) <|
      if s.exclusiveOk (s.base rn) (2 * elementBytes sf) then
        .next ((s.storePairFrom (s.base rn) (elementBytes sf) rt rt2).wrRz rs 0#32)
      else .next (s.clearLocal.wrRz rs 1#32)

/-- The second register of a CASP pair. -/
def nextReg (r : RegNum) : RegNum := r + 1#5

/-- CASP: both elements are compared, and stored only together (R367); checked as one range (log 22). -/
def execCasp (sf acq rel : Bool) (rs rn rt : RegNum) (s : State) : Result :=
  whenNative (.casp sf acq rel rs rn rt) s <| s.checkAtomic rn (2 * elementBytes sf) <|
    let addr := s.base rn
    let size := elementBytes sf
    let old0 := s.memRead addr size
    let old1 := s.memRead (pairSecond addr size) size
    let same := decide (old0 = s.rz (8 * size) rs) && decide (old1 = s.rz (8 * size) (nextReg rs))
    let t := if same then s.storePairFrom addr size rt (nextReg rt) else s
    .next ((t.wrRz rs (old0.setWidth (width sf))).wrRz (nextReg rs) (old1.setWidth (width sf)))

/-- LDAPUR (R370). -/
def execLdapur (size : AccessSize) (imm9 : BitVec 9) (rn rt : RegNum) (s : State) : Result :=
  s.checkSp rn <| s.checkLine (s.unscaledAddress rn imm9) (accessBytes size) <|
    s.checkValid (s.unscaledAddress rn imm9) (accessBytes size) <|
      .next (s.loadTo (s.unscaledAddress rn imm9) (accessBytes size) false (accessRegWidth size) rt)

/-- STLUR (R370). -/
def execStlur (size : AccessSize) (imm9 : BitVec 9) (rn rt : RegNum) (s : State) : Result :=
  s.checkSp rn <| s.checkLine (s.unscaledAddress rn imm9) (accessBytes size) <|
    s.checkValid (s.unscaledAddress rn imm9) (accessBytes size) <|
      .next (s.storeFrom (s.unscaledAddress rn imm9) (accessBytes size) rt)

/-! ## Vector registers (R361) -/

/-- LDR Bt, Ht, St, Dt, Qt (R358, R361). -/
def execLdrVector (size : VecSize) (mode : AddrMode) (rn vt : RegNum) (s : State) : Result :=
  let at_ := s.modeAddress rn (vecBytes size) mode
  whenNative (.ldrVector size mode rn vt) s <| s.checkSp rn <| s.checkValid at_.1 (vecBytes size) <|
    .next ((s.wrV vt ((s.memRead at_.1 (vecBytes size)).setWidth 128)).writeBack rn at_.2)

/-- STR Bt, Ht, St, Dt, Qt (R358, R361). -/
def execStrVector (size : VecSize) (mode : AddrMode) (rn vt : RegNum) (s : State) : Result :=
  let at_ := s.modeAddress rn (vecBytes size) mode
  whenNative (.strVector size mode rn vt) s <| s.checkSp rn <| s.checkValid at_.1 (vecBytes size) <|
    .next ((s.store at_.1 (vecBytes size) (s.vReg vt)).writeBack rn at_.2)

/-- LDP of vector registers (R359, R361). -/
def execLdpVector (size : VecSize) (mode : PairMode) (vt2 rn vt : RegNum) (s : State) : Result :=
  let at_ := s.pairModeAddress rn (vecBytes size) mode
  whenNative (.ldpVector size mode vt2 rn vt) s <| s.checkLoadPair (.native (.ldpVector size mode vt2 rn vt)) vt vt2 <| s.checkSp rn <|
    s.checkPair at_.1 (vecBytes size) <|
      .next (((s.wrV vt ((s.memRead at_.1 (vecBytes size)).setWidth 128)).wrV vt2
        ((s.memRead (pairSecond at_.1 (vecBytes size)) (vecBytes size)).setWidth 128)).writeBack rn at_.2)

/-- STP of vector registers (R359, R361). -/
def execStpVector (size : VecSize) (mode : PairMode) (vt2 rn vt : RegNum) (s : State) : Result :=
  let at_ := s.pairModeAddress rn (vecBytes size) mode
  whenNative (.stpVector size mode vt2 rn vt) s <| s.checkSp rn <| s.checkPair at_.1 (vecBytes size) <|
    .next (((s.memWrite at_.1 (vecBytes size) (s.vReg vt)).store (pairSecond at_.1 (vecBytes size))
      (vecBytes size) (s.vReg vt2)).writeBack rn at_.2)

/-- LDR (literal) of a vector register (R360, R361). -/
def execLdrVectorLiteral (size : VecSize) (imm19 : BitVec 19) (vt : RegNum) (s : State) : Result :=
  whenNative (.ldrVectorLiteral size imm19 vt) s <| s.checkValid (s.pcOffset imm19) (vecBytes size) <|
    .next (s.wrV vt ((s.memRead (s.pcOffset imm19) (vecBytes size)).setWidth 128))

/-! ## Z and P registers (R434) -/

/-- Bytes of a Z register: VL counts bits (R7, R38), so VL/8 bytes. DEDUCED: the "VL/8 or VL bytes" of R434
are 8 times too many, the counts of bits of P and Z (log 19). -/
def State.zBytes (s : State) : Nat := s.platform.vl / 8

/-- Bytes of a P register: VL/8 bits (R39), so VL/64 bytes. DEDUCED, as for Z (R434, log 19). -/
def State.pBytes (s : State) : Nat := s.platform.vl / 64

/-- LDR of a Z register, byte by byte (R434). DESIGN CHOICE: the bytes are checked as one range, whose base
an AddressFault records, and a range past the end of the address space faults (R73, R463, log 19). -/
def execLdrZ (offset : BitVec 64) (rn zt : RegNum) (s : State) : Result :=
  s.checkSp rn <| s.checkValid (s.base rn + offset) s.zBytes <|
    .next (s.wrZ zt ((s.memRead (s.base rn + offset) s.zBytes).setWidth 2048))

/-- STR of a Z register (R434); one range is checked, as for LDR. DESIGN CHOICE (R73, R463, log 19). -/
def execStrZ (offset : BitVec 64) (rn zt : RegNum) (s : State) : Result :=
  s.checkSp rn <| s.checkValid (s.base rn + offset) s.zBytes <|
    .next (s.store (s.base rn + offset) s.zBytes (s.zReg zt))

/-- LDR of a P register (R434); one range is checked. DESIGN CHOICE (R73, R463, log 19). -/
def execLdrP (offset : BitVec 64) (rn : RegNum) (pt : PredNum) (s : State) : Result :=
  s.checkSp rn <| s.checkValid (s.base rn + offset) s.pBytes <|
    .next (s.wrP pt ((s.memRead (s.base rn + offset) s.pBytes).setWidth 256))

/-- STR of a P register (R434); one range is checked. DESIGN CHOICE (R73, R463, log 19). -/
def execStrP (offset : BitVec 64) (rn : RegNum) (pt : PredNum) (s : State) : Result :=
  s.checkSp rn <| s.checkValid (s.base rn + offset) s.pBytes <|
    .next (s.store (s.base rn + offset) s.pBytes (s.pReg pt))

end Sys2Proof.Machine
end

