-- ==== Sys2Proof/Machine/FpArith.lean ====
section
/-! DEFINITION. Floating-point arithmetic on encoded values (spec/49_fp_simd_sve.md R400 to R409). A
value is decoded to an exact dyadic number, the exact result is computed, and it is rounded once.
Where the spec names an IEEE 754 or AArch64 rule without its bits, the reading is PRESUMED (log 17). -/

namespace Sys2Proof.Machine

/-! ## Formats and environment -/

/-- Bits of a format (R400). -/
def fpBits : FpFormat → Nat
  | .half => 16
  | .single => 32
  | .double => 64

/-- Fraction bits. -/
def fracBits : FpFormat → Nat
  | .half => 10
  | .single => 23
  | .double => 52

/-- Exponent bits. -/
def expBits : FpFormat → Nat
  | .half => 5
  | .single => 8
  | .double => 11

/-- Exponent bias. -/
def fpBias (f : FpFormat) : Nat := 2 ^ (expBits f - 1) - 1

/-- Exponent of the unit of a denormal number. -/
def fpUnit (f : FpFormat) : Int := 1 - (fpBias f : Int) - (fracBits f : Int)

/-- The encoding of the positive infinity. -/
def fpInfinity (f : FpFormat) : Nat := (2 ^ expBits f - 1) * 2 ^ fracBits f

/-- What FPCR says to an operation (R34, R401), and the free NaN of this result (U8, log 17). -/
structure FpEnv where
  mode : Rounding
  fz : Bool
  dn : Bool
  ahp : Bool
  freeNaN : BitVec 16
  deriving DecidableEq, Repr

/-- The rounding mode of FPCR: bits [23:22] (R34). -/
def fpcrMode (fpcr : BitVec 32) : Rounding :=
  match (fpcr.extractLsb' 22 2).toNat with
  | 0 => .tieEven
  | 1 => .plusInf
  | 2 => .minusInf
  | _ => .zero

/-- FZ is bit 24, DN bit 25, AHP bit 26 (R34). -/
def fpEnvOf (fpcr : BitVec 32) (freeNaN : BitVec 16) : FpEnv :=
  { mode := fpcrMode fpcr, fz := fpcr.getLsbD 24, dn := fpcr.getLsbD 25, ahp := fpcr.getLsbD 26,
    freeNaN := freeNaN }

/-- FPCR has no bit outside AHP, DN, FZ and RMode (R34, R401). -/
def fpcrSupported (fpcr : BitVec 32) : Bool := decide (fpcr &&& ~~~0x07C00000#32 = 0#32)

/-! ## Values -/

/-- A decoded value: a NaN with its encoding, an infinity, or the number `m * 2^e`, zero included. -/
inductive FpValue where
  | nan (signalling : Bool) (bits : BitVec 64)
  | inf (neg : Bool)
  | num (neg : Bool) (m : Nat) (e : Int)
  deriving DecidableEq, Repr

/-- The sign bit in a format. -/
def fpSign (f : FpFormat) (neg : Bool) : Nat := if neg then 2 ^ (fpBits f - 1) else 0

/-- Decode; FZ makes a denormal input zero (R401). With `alt` the alternative half-precision format,
which has no infinities and no NaNs, is read. -/
def fpDecode (f : FpFormat) (fz alt : Bool) (v : BitVec 64) : FpValue :=
  let frac := v.toNat % 2 ^ fracBits f
  let ex := v.toNat / 2 ^ fracBits f % 2 ^ expBits f
  let neg := v.getLsbD (fpBits f - 1)
  if ex = 0 then .num neg (if fz then 0 else frac) (fpUnit f)
  else if ex = 2 ^ expBits f - 1 ∧ alt = false then
    if frac = 0 then .inf neg else .nan (decide (frac < 2 ^ (fracBits f - 1))) v
  else .num neg (2 ^ fracBits f + frac) (fpUnit f + (ex : Int) - 1)

/-- The default NaN (R403). -/
def fpDefaultNaN (f : FpFormat) : BitVec 64 := BitVec.ofNat 64 (fpInfinity f + 2 ^ (fracBits f - 1))

/-- A NaN with its top fraction bit set (R403). -/
def fpQuiet (f : FpFormat) (v : BitVec 64) : BitVec 64 := v ||| BitVec.twoPow 64 (fracBits f - 1)

/-- Some half-precision NaN: only that it is one is fixed (U8). -/
def fpFreeHalfNaN (r : BitVec 16) : BitVec 64 :=
  let v := r ||| 0x7C00#16
  (if v &&& 0x03FF#16 = 0#16 then v ||| 0x0200#16 else v).setWidth 64

/-- A NaN result: the default NaN under DN, any NaN in half precision, else the NaN given (R401, R403,
U8). -/
def fpMakeNaN (f : FpFormat) (env : FpEnv) (v : BitVec 64) : BitVec 64 :=
  if env.dn then fpDefaultNaN f
  else
    match f with
    | .half => fpFreeHalfNaN env.freeNaN
    | .single | .double => v

/-- The result of an invalid operation: the default NaN. -/
def fpInvalid (f : FpFormat) (env : FpEnv) : BitVec 64 := fpMakeNaN f env (fpDefaultNaN f)

/-- The first signalling NaN in operand order. -/
def firstSignalling : List FpValue → Option (BitVec 64)
  | [] => none
  | .nan true v :: _ => some v
  | _ :: vs => firstSignalling vs

/-- The first NaN in operand order. -/
def firstNaN : List FpValue → Option (BitVec 64)
  | [] => none
  | .nan _ v :: _ => some v
  | _ :: vs => firstNaN vs

/-- NaN propagation: a signalling NaN before a quiet one, the first in operand order, quieted (R403). -/
def fpPropagate (f : FpFormat) (env : FpEnv) (operands : List FpValue) : Option (BitVec 64) :=
  match firstSignalling operands with
  | some v => some (fpMakeNaN f env (fpQuiet f v))
  | none => (firstNaN operands).map fun v => fpMakeNaN f env (fpQuiet f v)

/-! ## Rounding -/

/-- `m / 2^shift` rounded to an integer in a mode; `neg` is the sign of the number. -/
def roundShift (mode : Rounding) (neg : Bool) (m shift : Nat) : Nat :=
  let q := m / 2 ^ shift
  let twice := 2 * (m % 2 ^ shift)
  let up :=
    match mode with
    | .tieEven => decide (twice > 2 ^ shift) || (decide (twice = 2 ^ shift) && decide (q % 2 = 1))
    | .tieAway => decide (twice ≥ 2 ^ shift) && decide (twice ≠ 0)
    | .plusInf => decide (twice ≠ 0) && !neg
    | .minusInf => decide (twice ≠ 0) && neg
    | .zero => false
  if up then q + 1 else q

/-- The magnitude `m * 2^e` rounded to an integer. -/
def roundMagnitude (mode : Rounding) (neg : Bool) (m : Nat) (e : Int) : Nat :=
  if 0 ≤ e then m * 2 ^ e.toNat else roundShift mode neg m (-e).toNat

/-- Whether an overflow in a mode gives an infinity rather than the largest number. -/
def overflowsToInfinity (mode : Rounding) (neg : Bool) : Bool :=
  match mode with
  | .tieEven | .tieAway => true
  | .plusInf => !neg
  | .minusInf => neg
  | .zero => false

/-- The encoding, without sign, of the magnitude `m * 2^e` rounded to a format whose exponent is not
bounded above. The unit of the result is that of a denormal number, or `fracBits` below the leading
bit. -/
def roundEncoding (f : FpFormat) (mode : Rounding) (neg : Bool) (m : Nat) (e : Int) : Nat :=
  let unit := max ((m.log2 : Int) + e - fracBits f) (fpUnit f)
  roundMagnitude mode neg m (e - unit) + (unit - fpUnit f).toNat * 2 ^ fracBits f

/-- The number `m * 2^e` in a format: correctly rounded (R400), a denormal result zero under FZ
(R401). -/
def fpRound (f : FpFormat) (mode : Rounding) (fz neg : Bool) (m : Nat) (e : Int) : BitVec 64 :=
  if m = 0 ∨ (fz = true ∧ (m.log2 : Int) + e < fpUnit f + fracBits f) then BitVec.ofNat 64 (fpSign f neg)
  else
    let enc := roundEncoding f mode neg m e
    let enc :=
      if enc ≥ fpInfinity f then
        if overflowsToInfinity mode neg then fpInfinity f else fpInfinity f - 1
      else enc
    BitVec.ofNat 64 (fpSign f neg + enc)

/-- Rounding in the mode of FPCR. -/
def fpRoundEnv (f : FpFormat) (env : FpEnv) (neg : Bool) (m : Nat) (e : Int) : BitVec 64 :=
  fpRound f env.mode env.fz neg m e

/-- A zero of a sign. -/
def fpZero (f : FpFormat) (neg : Bool) : BitVec 64 := BitVec.ofNat 64 (fpSign f neg)

/-- An infinity of a sign. -/
def fpInf (f : FpFormat) (neg : Bool) : BitVec 64 := BitVec.ofNat 64 (fpSign f neg + fpInfinity f)

/-! ## Arithmetic -/

/-- A signed magnitude as an integer. -/
def signedInt (neg : Bool) (m : Nat) : Int := if neg then -(m : Int) else m

/-- The exact sum of two numbers; an exact zero is positive, negative under MinusInf, unless both have
one sign. -/
def fpSum (f : FpFormat) (env : FpEnv) (n1 : Bool) (m1 : Nat) (e1 : Int) (n2 : Bool) (m2 : Nat) (e2 : Int) :
    BitVec 64 :=
  let e := min e1 e2
  let total := signedInt n1 (m1 * 2 ^ (e1 - e).toNat) + signedInt n2 (m2 * 2 ^ (e2 - e).toNat)
  if total = 0 then
    fpZero f (if n1 = n2 then n1 else decide (env.mode = .minusInf))
  else fpRoundEnv f env (decide (total < 0)) total.natAbs e

/-- Negate an encoding. -/
def fpNegate (f : FpFormat) (v : BitVec 64) : BitVec 64 := v ^^^ BitVec.twoPow 64 (fpBits f - 1)

/-- Addition. -/
def fpAdd (f : FpFormat) (env : FpEnv) (a b : BitVec 64) : BitVec 64 :=
  let x := fpDecode f env.fz false a
  let y := fpDecode f env.fz false b
  match fpPropagate f env [x, y] with
  | some v => v
  | none =>
    match x, y with
    | .inf n1, .inf n2 => if n1 = n2 then fpInf f n1 else fpInvalid f env
    | .inf n1, _ => fpInf f n1
    | _, .inf n2 => fpInf f n2
    | .num n1 m1 e1, .num n2 m2 e2 => fpSum f env n1 m1 e1 n2 m2 e2
    | _, _ => fpInvalid f env

/-- Subtraction: the second operand's sign is flipped unless it is a NaN. -/
def fpSub (f : FpFormat) (env : FpEnv) (a b : BitVec 64) : BitVec 64 :=
  match fpDecode f env.fz false b with
  | .nan _ _ => fpAdd f env a b
  | .inf _ | .num _ _ _ => fpAdd f env a (fpNegate f b)

/-- Multiplication. -/
def fpMul (f : FpFormat) (env : FpEnv) (a b : BitVec 64) : BitVec 64 :=
  let x := fpDecode f env.fz false a
  let y := fpDecode f env.fz false b
  match fpPropagate f env [x, y] with
  | some v => v
  | none =>
    match x, y with
    | .inf n1, .inf n2 => fpInf f (n1 ^^ n2)
    | .inf n1, .num n2 m2 _ => if m2 = 0 then fpInvalid f env else fpInf f (n1 ^^ n2)
    | .num n1 m1 _, .inf n2 => if m1 = 0 then fpInvalid f env else fpInf f (n1 ^^ n2)
    | .num n1 m1 e1, .num n2 m2 e2 => fpRoundEnv f env (n1 ^^ n2) (m1 * m2) (e1 + e2)
    | _, _ => fpInvalid f env

/-- A quotient with enough bits to round, its last bit set when it is not exact. -/
def fpQuotient (m1 m2 : Nat) : Nat × Int :=
  let k := m2.log2 + 70
  let q := m1 * 2 ^ k / m2
  (2 * q + (if m1 * 2 ^ k % m2 = 0 then 0 else 1), -(k : Int) - 1)

/-- Division. -/
def fpDiv (f : FpFormat) (env : FpEnv) (a b : BitVec 64) : BitVec 64 :=
  let x := fpDecode f env.fz false a
  let y := fpDecode f env.fz false b
  match fpPropagate f env [x, y] with
  | some v => v
  | none =>
    match x, y with
    | .inf _, .inf _ => fpInvalid f env
    | .inf n1, .num n2 _ _ => fpInf f (n1 ^^ n2)
    | .num n1 _ _, .inf n2 => fpZero f (n1 ^^ n2)
    | .num n1 m1 e1, .num n2 m2 e2 =>
      if m2 = 0 then if m1 = 0 then fpInvalid f env else fpInf f (n1 ^^ n2)
      else
        let q := fpQuotient m1 m2
        fpRoundEnv f env (n1 ^^ n2) q.1 (e1 - e2 + q.2)
    | _, _ => fpInvalid f env

/-- The integer square root, bit by bit from bit `k - 1` down. -/
def isqrtBits (m : Nat) : (k r : Nat) → Nat
  | 0, r => r
  | k + 1, r => isqrtBits m k (if (r + 2 ^ k) * (r + 2 ^ k) ≤ m then r + 2 ^ k else r)

/-- Square root. -/
def fpSqrt (f : FpFormat) (env : FpEnv) (a : BitVec 64) : BitVec 64 :=
  let x := fpDecode f env.fz false a
  match fpPropagate f env [x] with
  | some v => v
  | none =>
    match x with
    | .inf neg => if neg then fpInvalid f env else fpInf f false
    | .num neg m e =>
      if m = 0 then fpZero f neg
      else if neg then fpInvalid f env
      else
        let odd := decide (e % 2 ≠ 0)
        let wide := (if odd then 2 * m else m) * 2 ^ 140
        let even := if odd then e - 1 else e
        let r := isqrtBits wide 100 0
        fpRoundEnv f env false (2 * r + (if r * r = wide then 0 else 1)) (even / 2 - 71)
    | .nan _ _ => fpInvalid f env

/-- Order of two numbers or infinities. -/
def fpOrder (x y : FpValue) : FpRelation :=
  match x, y with
  | .nan _ _, _ => .unordered
  | _, .nan _ _ => .unordered
  | .inf n1, .inf n2 => if n1 = n2 then .equal else if n1 then .less else .greater
  | .inf n1, .num _ _ _ => if n1 then .less else .greater
  | .num _ _ _, .inf n2 => if n2 then .greater else .less
  | .num n1 m1 e1, .num n2 m2 e2 =>
    let e := min e1 e2
    let a := signedInt n1 (m1 * 2 ^ (e1 - e).toNat)
    let b := signedInt n2 (m2 * 2 ^ (e2 - e).toNat)
    if a = b then .equal else if a < b then .less else .greater

/-- Whether a value is negative, zeros included. -/
def fpIsNeg : FpValue → Bool
  | .nan _ _ => false
  | .inf neg => neg
  | .num neg _ _ => neg

/-- A value encoded again, rounding nothing away. -/
def fpEncodeExact (f : FpFormat) (env : FpEnv) : FpValue → BitVec 64
  | .nan _ v => v
  | .inf neg => fpInf f neg
  | .num neg m e => fpRound f .zero env.fz neg m e

/-- Maximum or minimum; of two zeros of different sign the positive one is the larger. -/
def fpMaxMin (f : FpFormat) (env : FpEnv) (isMax : Bool) (a b : BitVec 64) : BitVec 64 :=
  let x := fpDecode f env.fz false a
  let y := fpDecode f env.fz false b
  match fpPropagate f env [x, y] with
  | some v => v
  | none =>
    let first :=
      match fpOrder x y with
      | .greater => isMax
      | .less => !isMax
      | .equal | .unordered => fpIsNeg x != isMax
    fpEncodeExact f env (if first then x else y)

/-- Whether a value is a quiet NaN. -/
def fpIsQuietNaN : FpValue → Bool
  | .nan signalling _ => !signalling
  | .inf _ | .num _ _ _ => false

/-- The NM variants: one quiet NaN loses to a number. -/
def fpMaxMinNm (f : FpFormat) (env : FpEnv) (isMax : Bool) (a b : BitVec 64) : BitVec 64 :=
  let qa := fpIsQuietNaN (fpDecode f env.fz false a)
  let qb := fpIsQuietNaN (fpDecode f env.fz false b)
  let low := fpInf f isMax
  fpMaxMin f env isMax (if qa && !qb then low else a) (if qb && !qa then low else b)

/-- Fused multiply-add `a + n * m`: one rounding. The addend comes first in the order of NaNs. -/
def fpMulAdd (f : FpFormat) (env : FpEnv) (a n m : BitVec 64) : BitVec 64 :=
  let x := fpDecode f env.fz false a
  let y := fpDecode f env.fz false n
  let z := fpDecode f env.fz false m
  let invalidProduct :=
    match y, z with
    | .inf _, .num _ k _ => decide (k = 0)
    | .num _ k _, .inf _ => decide (k = 0)
    | _, _ => false
  if fpIsQuietNaN x && invalidProduct then fpInvalid f env
  else
    match fpPropagate f env [x, y, z] with
    | some v => v
    | none =>
      if invalidProduct then fpInvalid f env
      else
        let neg := fpIsNeg y ^^ fpIsNeg z
        match x, y, z with
        | .num n1 m1 e1, .num _ m2 e2, .num _ m3 e3 => fpSum f env n1 m1 e1 neg (m2 * m3) (e2 + e3)
        | .inf n1, .num _ _ _, .num _ _ _ => fpInf f n1
        | .inf n1, _, _ => if n1 = neg then fpInf f n1 else fpInvalid f env
        | _, _, _ => fpInf f neg

/-! ## Operations by name -/

/-- Two-operand operations; FNMUL negates the rounded product. -/
def fp2Result (op : Fp2Op) (f : FpFormat) (env : FpEnv) (a b : BitVec 64) : BitVec 64 :=
  match op with
  | .add => fpAdd f env a b
  | .sub => fpSub f env a b
  | .mul => fpMul f env a b
  | .nmul => fpNegate f (fpMul f env a b)
  | .div => fpDiv f env a b
  | .max => fpMaxMin f env true a b
  | .min => fpMaxMin f env false a b
  | .maxnm => fpMaxMinNm f env true a b
  | .minnm => fpMaxMinNm f env false a b

/-- Fused operations: signs of the addend and of the first factor are flipped first. -/
def fp3Result (op : Fp3Op) (f : FpFormat) (env : FpEnv) (a n m : BitVec 64) : BitVec 64 :=
  match op with
  | .madd => fpMulAdd f env a n m
  | .msub => fpMulAdd f env a (fpNegate f n) m
  | .nmadd => fpMulAdd f env (fpNegate f a) (fpNegate f n) m
  | .nmsub => fpMulAdd f env (fpNegate f a) n m

/-- Rounding to an integral value (R409). -/
def fpRoundIntegral (f : FpFormat) (env : FpEnv) (mode : Rounding) (a : BitVec 64) : BitVec 64 :=
  let x := fpDecode f env.fz false a
  match fpPropagate f env [x] with
  | some v => v
  | none =>
    match x with
    | .num neg m e => fpRound f .zero false neg (roundMagnitude mode neg m e) 0
    | .inf neg => fpInf f neg
    | .nan _ _ => fpInvalid f env

/-- One-operand operations: FMOV, FABS and FNEG only touch the sign. -/
def fp1Result (op : Fp1Op) (f : FpFormat) (env : FpEnv) (a : BitVec 64) : BitVec 64 :=
  match op with
  | .mov => a
  | .abs => a &&& ~~~BitVec.twoPow 64 (fpBits f - 1)
  | .neg => fpNegate f a
  | .sqrt => fpSqrt f env a
  | .frint none => fpRoundIntegral f env env.mode a
  | .frint (some mode) => fpRoundIntegral f env mode a

/-- The relation of a compare (R406). -/
def fpCompare (f : FpFormat) (fz : Bool) (a b : BitVec 64) : FpRelation :=
  fpOrder (fpDecode f fz false a) (fpDecode f fz false b)

/-! ## Conversions -/

/-- A NaN moved to another format: sign and the top of the fraction kept, quieted. -/
def fpConvertNaN (source target : FpFormat) (v : BitVec 64) : BitVec 64 :=
  let frac := v.toNat % 2 ^ fracBits source
  let moved := frac * 2 ^ fracBits target / 2 ^ fracBits source
  fpQuiet target
    (BitVec.ofNat 64 (fpSign target (v.getLsbD (fpBits source - 1)) + fpInfinity target + moved))

/-- The alternative half-precision format: no infinities, no NaNs, the largest value 0x7FFF. -/
def fpRoundAlt (env : FpEnv) (neg : Bool) (m : Nat) (e : Int) : BitVec 64 :=
  if m = 0 ∨ (env.fz = true ∧ (m.log2 : Int) + e < fpUnit .half + fracBits .half) then fpZero .half neg
  else BitVec.ofNat 64 (fpSign .half neg + min (roundEncoding .half env.mode neg m e) 0x7FFF)

/-- FCVT between formats; AHP selects the alternative half-precision format (R400, R401). PRESUMED: it
rounds in the mode of FPCR, for R402 has conversions round in a mode the opcode chooses and FCVT's names
none (log 17). -/
def fpConvert (source target : FpFormat) (env : FpEnv) (a : BitVec 64) : BitVec 64 :=
  let altTarget := decide (target = .half) && env.ahp
  match fpDecode source env.fz (decide (source = .half) && env.ahp) a with
  | .nan _ v =>
    if altTarget then fpZero .half (v.getLsbD (fpBits source - 1))
    else fpMakeNaN target env (fpConvertNaN source target v)
  | .inf neg => if altTarget then BitVec.ofNat 64 (fpSign .half neg + 0x7FFF) else fpInf target neg
  | .num neg m e => if altTarget then fpRoundAlt env neg m e else fpRoundEnv target env neg m e

/-- The integer a value converts to, before saturation, and what an infinity goes to. -/
def fpToIntValue (f : FpFormat) (fz : Bool) (mode : Rounding) (fbits : Nat) (lo hi : Int) (a : BitVec 64) : Int :=
  match fpDecode f fz false a with
  | .nan _ _ => 0
  | .inf neg => if neg then lo else hi
  | .num neg m e => signedInt neg (roundMagnitude mode neg m (e + fbits))

/-- The range of an `n`-bit integer. -/
def intMin (n : Nat) (signed : Bool) : Int := if signed then -(2 ^ (n - 1) : Nat) else 0

/-- The range of an `n`-bit integer. -/
def intMax (n : Nat) (signed : Bool) : Int := if signed then (2 ^ (n - 1) : Nat) - 1 else (2 ^ n : Nat) - 1

/-- Clamp to the range of an `n`-bit integer. -/
def saturate (n : Nat) (signed : Bool) (v : Int) : BitVec n :=
  toBits n (max (intMin n signed) (min (intMax n signed) v))

/-- FP to integer or fixed point: rounded, then saturated; a NaN gives 0 (R407, R408). -/
def fpToInt (f : FpFormat) (fz : Bool) (n : Nat) (signed : Bool) (mode : Rounding) (fbits : Nat) (a : BitVec 64) :
    BitVec n :=
  saturate n signed (fpToIntValue f fz mode fbits (intMin n signed) (intMax n signed) a)

/-- Integer or fixed point to FP, rounded once (R408). -/
def intToFp (f : FpFormat) (env : FpEnv) (signed : Bool) (fbits : Nat) {n : Nat} (v : BitVec n) : BitVec 64 :=
  let i : Int := if signed then v.toInt else v.toNat
  fpRoundEnv f env (decide (i < 0)) i.natAbs (-(fbits : Int))

/-- FJCVTZS: toward zero, modulo 2^32; exact when nothing is lost, a negative zero not being exact
(R407; PRESUMED, log 17). -/
def fpJsConvert (fz : Bool) (a : BitVec 64) : BitVec 32 × Bool :=
  match fpDecode .double fz false a with
  | .nan _ _ | .inf _ => (0#32, false)
  | .num neg m e =>
    let i := signedInt neg (roundMagnitude .zero neg m e)
    let whole := decide (0 ≤ e) || decide (m % 2 ^ (-e).toNat = 0)
    let inRange := decide (intMin 32 true ≤ i ∧ i ≤ intMax 32 true)
    let zero := decide (a &&& ~~~BitVec.twoPow 64 63 = 0#64)
    (toBits 32 i, whole && inRange && (decide (m ≠ 0) || (zero && !neg)))

end Sys2Proof.Machine
end

