-- ==== Sys2Proof/Machine/Fp.lean ====
section
/-! DEFINITION. Scalar floating-point commands (spec/49_fp_simd_sve.md R400 to R409). Signalling NaN
inputs set no state: there is no FPSR (R35, R404). -/

namespace Sys2Proof.Machine

/-- An FP instruction under an unsupported FPCR is unimplemented; the fault records the command (R401,
R453). -/
def whenFp (c : NativeCmd) (s : State) (k : Result) : Result :=
  if fpcrSupported s.fpcr then k else s.raise (.unimplemented · (.native c))

/-- An FP command whose fields have a form of their own: the form, then FPCR. -/
def whenNativeFp (c : NativeCmd) (s : State) (k : Result) : Result := whenNative c s <| whenFp c s k

/-- What FPCR says, with the free NaN of lane `k` of this instruction (log 17). -/
def State.fpEnv (s : State) (k : Nat) : FpEnv := fpEnvOf s.fpcr (Config.freeNaN (s.freeCount + k))

/-- An FP operand: the low bits of a register. -/
def State.fpReg (s : State) (f : FpFormat) (i : RegNum) : BitVec 64 :=
  ((s.zReg i).setWidth (fpBits f)).setWidth 64

/-- A scalar FP result: lane 0, the unused upper lanes zero (R409). -/
def State.wrFp (s : State) (f : FpFormat) (vd : RegNum) (v : BitVec 64) : State :=
  s.wrV vd ((v.setWidth (fpBits f)).setWidth 128)

/-- FMOV (immediate) (R400). -/
def execFmovImmediate (f : FpFormat) (imm : BitVec 64) (vd : RegNum) (s : State) : Result :=
  whenFp (.fmovImmediate f imm vd) s <| .next (s.wrFp f vd imm)

/-- FPDP-1-source (R400, R409). -/
def execFp1 (op : Fp1Op) (f : FpFormat) (vn vd : RegNum) (s : State) : Result :=
  whenFp (.fp1 op f vn vd) s <| .next (s.wrFp f vd (fp1Result op f (s.fpEnv 0) (s.fpReg f vn)))

/-- FCVT (R400), rounded in the mode of FPCR (fpConvert, log 17). -/
def execFcvt (source target : FpFormat) (vn vd : RegNum) (s : State) : Result :=
  whenNativeFp (.fcvt source target vn vd) s <|
    .next (s.wrFp target vd (fpConvert source target (s.fpEnv 0) (s.fpReg source vn)))

/-- FPDP-2-source (R400). -/
def execFp2 (op : Fp2Op) (f : FpFormat) (vm vn vd : RegNum) (s : State) : Result :=
  whenFp (.fp2 op f vm vn vd) s <|
    .next (s.wrFp f vd (fp2Result op f (s.fpEnv 0) (s.fpReg f vn) (s.fpReg f vm)))

/-- FPDP-3-source (R400). -/
def execFp3 (op : Fp3Op) (f : FpFormat) (vm va vn vd : RegNum) (s : State) : Result :=
  whenFp (.fp3 op f vm va vn vd) s <|
    .next (s.wrFp f vd (fp3Result op f (s.fpEnv 0) (s.fpReg f va) (s.fpReg f vn) (s.fpReg f vm)))

/-- The relation of two FP registers, or of one and zero (R406). -/
def State.fpRelation (s : State) (f : FpFormat) (vn : RegNum) (vm : Option RegNum) : FpRelation :=
  fpCompare f (s.fpEnv 0).fz (s.fpReg f vn)
    (match vm with
      | some m => s.fpReg f m
      | none => 0#64)

/-- FCMP, FCMPE (R406). -/
def execFcmp (signalling : Bool) (f : FpFormat) (vm : Option RegNum) (vn : RegNum) (s : State) : Result :=
  whenFp (.fcmp signalling f vm vn) s <| .next (s.setFlags (fpCompareFlags (s.fpRelation f vn vm)))

/-- FCCMP, FCCMPE (R406). -/
def execFccmp (signalling : Bool) (f : FpFormat) (vm : RegNum) (cond : Cond) (vn : RegNum) (nzcv : BitVec 4)
    (s : State) : Result :=
  whenFp (.fccmp signalling f vm cond vn nzcv) s <|
    .next (s.setFlags (if conditionHolds cond s.nzcv then fpCompareFlags (s.fpRelation f vn (some vm))
      else Nzcv.ofBits nzcv))

/-- FCSEL (R406). -/
def execFcsel (f : FpFormat) (vm : RegNum) (cond : Cond) (vn vd : RegNum) (s : State) : Result :=
  whenFp (.fcsel f vm cond vn vd) s <|
    .next (s.wrFp f vd (s.fpReg f (if conditionHolds cond s.nzcv then vn else vm)))

/-- FCVTNS to FCVTZU, and FCVTZS, FCVTZU to fixed point (R402, R407, R408). -/
def execFpToInt (f : FpFormat) (sf signed : Bool) (mode : Rounding) (fbits : Nat) (vn rd : RegNum) (s : State) :
    Result :=
  whenNativeFp (.fpToInt f sf signed mode fbits vn rd) s <|
    .next (s.wrRz rd (fpToInt f (s.fpEnv 0).fz (width sf) signed mode fbits (s.fpReg f vn)))

/-- SCVTF, UCVTF, integer and fixed point (R408). -/
def execIntToFp (f : FpFormat) (sf signed : Bool) (fbits : Nat) (rn vd : RegNum) (s : State) : Result :=
  whenNativeFp (.intToFp f sf signed fbits rn vd) s <|
    .next (s.wrFp f vd (intToFp f (s.fpEnv 0) signed fbits (s.rz (width sf) rn)))

/-- FJCVTZS (R407). -/
def execFjcvtzs (vn rd : RegNum) (s : State) : Result :=
  let r := fpJsConvert (s.fpEnv 0).fz (s.fpReg .double vn)
  whenFp (.fjcvtzs vn rd) s <| .next ((s.wrRz rd r.1).setFlags (jcvtFlags r.2))

/-- FMOV to a general register (R407). -/
def execFmovToGeneral (form : FmovForm) (vn rd : RegNum) (s : State) : Result :=
  whenFp (.fmovToGeneral form vn rd) s <|
    match form with
    | .wh => .next (s.wrRz rd ((s.lane 16 vn 0).setWidth 32))
    | .xh => .next (s.wrRz rd ((s.lane 16 vn 0).setWidth 64))
    | .ws => .next (s.wrRz rd (s.lane 32 vn 0))
    | .xd => .next (s.wrRz rd (s.lane 64 vn 0))
    | .xTop => .next (s.wrRz rd (s.lane 64 vn 1))

/-- A write of one lane, the others kept (R38). -/
def State.wrLane (s : State) (w : Nat) (vd : RegNum) (k : Nat) (v : BitVec w) : State :=
  let field : BitVec 2048 := (BitVec.allOnes w).setWidth 2048 <<< (w * k)
  s.wrZ vd ((s.zReg vd &&& ~~~field) ||| (v.setWidth 2048 <<< (w * k)))

/-- FMOV from a general register; to the upper doubleword it replaces that lane alone (R38, R407). -/
def execFmovFromGeneral (form : FmovForm) (rn vd : RegNum) (s : State) : Result :=
  whenFp (.fmovFromGeneral form rn vd) s <|
    match form with
    | .wh => .next (s.wrFp .half vd (s.rz 64 rn))
    | .xh => .next (s.wrFp .half vd (s.rz 64 rn))
    | .ws => .next (s.wrFp .single vd (s.rz 64 rn))
    | .xd => .next (s.wrFp .double vd (s.rz 64 rn))
    | .xTop => .next (s.wrLane 64 vd 1 (s.rz 64 rn))

end Sys2Proof.Machine
end

