-- ==== Sys2Proof/Machine/Simd.lean ====
section
/-! DEFINITION. The SIMD lane engine (spec/49_fp_simd_sve.md R412 to R421). -/

namespace Sys2Proof.Machine

/-! ## Lane arithmetic (R413) -/

/-- A lane as an integer. -/
def laneInt (signed : Bool) {w : Nat} (v : BitVec w) : Int := if signed then v.toInt else v.toNat

/-- The product of two polynomials over GF(2), over the low `n` bits of `b`. -/
def carryless (a b : Nat) : (n : Nat) → Nat
  | 0 => 0
  | k + 1 => carryless a b k ^^^ (if b.testBit k then a * 2 ^ k else 0)

/-- A shift by a signed count: to the left, or to the right with the highest bit it drops. -/
def shiftInt (i count : Int) : Int × Int :=
  if 0 ≤ count then (i * 2 ^ count.toNat, 0)
  else (i / 2 ^ (-count).toNat, i / 2 ^ ((-count).toNat - 1) % 2)

/-- The primary result, unbounded, and the highest bit a right shift drops (R413 step 1). What the named
families do beyond R413's list is PRESUMED (log 18): the high half of a doubled product, the shift by the
signed low byte of a lane, the accumulating and the inserting shifts. -/
def lanePrimary (op : LaneOp) (w : Nat) (signed : Bool) (d a b : BitVec w) : Int × Int :=
  let i := laneInt signed a
  let j := laneInt signed b
  match op with
  | .add => (i + j, 0)
  | .sub => (i - j, 0)
  | .mul => (i * j, 0)
  | .mla => (laneInt signed d + i * j, 0)
  | .mls => (laneInt signed d - i * j, 0)
  | .pmul => (carryless a.toNat b.toNat w, 0)
  | .abs => (i.natAbs, 0)
  | .neg => (-i, 0)
  | .shl k => (i * 2 ^ k, 0)
  | .shr k => shiftInt i (-k)
  | .mulh => shiftInt (2 * i * j) (-w)
  | .shlv => shiftInt i (b.setWidth 8).toInt
  | .sra k => let r := shiftInt i (-k); (laneInt signed d + r.1, r.2)
  | .sli k => (d.toNat % 2 ^ k + a.toNat * 2 ^ k, 0)
  | .sri k => (d.toNat / 2 ^ (w - k) * 2 ^ (w - k) + a.toNat / 2 ^ k, 0)

/-- Rounding, halving and saturation, in this order (R413 steps 2 to 4). What rounding adds is the highest
bit the primary step dropped, the last half when the result is halved: PRESUMED (log 18). -/
def laneFinish (w : Nat) (rounding halving : Bool) (sat : Saturation) (r : Int × Int) : BitVec w :=
  let rounded := if rounding then r.1 + (if halving then 1 else r.2) else r.1
  let halved := if halving then rounded / 2 else rounded
  match sat with
  | .none => toBits w halved
  | .signed => saturate w true halved
  | .unsigned => saturate w false halved

/-- A lane kernel (R412, R413). -/
def execSimdArith (op : LaneOp) (size : AccessSize) (shape : LaneShape) (signed rounding halving : Bool)
    (sat : Saturation) (vm vn vd : RegNum) (s : State) : Result :=
  let w := laneBits size
  whenNative (.simdArith op size shape signed rounding halving sat vm vn vd) s <|
    .next (s.wrLanes w shape vd fun k =>
      laneFinish w rounding halving sat (lanePrimary op w signed (s.lane w vd k) (s.lane w vn k) (s.lane w vm k)))

/-- Whether two lanes compare (R413, R427). -/
def laneCompare (cond : LaneCond) {w : Nat} (a b : BitVec w) : Bool :=
  match cond with
  | .eq => decide (a = b)
  | .ne => decide (a ≠ b)
  | .ge => decide (b.toInt ≤ a.toInt)
  | .gt => decide (b.toInt < a.toInt)
  | .le => decide (a.toInt ≤ b.toInt)
  | .lt => decide (a.toInt < b.toInt)
  | .hs => decide (b.toNat ≤ a.toNat)
  | .hi => decide (b.toNat < a.toNat)
  | .ls => decide (a.toNat ≤ b.toNat)
  | .lo => decide (a.toNat < b.toNat)

/-- All ones for true, all zeros for false (R413). -/
def laneMask (w : Nat) (b : Bool) : BitVec w := if b then BitVec.allOnes w else 0#w

/-- A lane compare, with a register or with zero (R413). -/
def execSimdCompare (cond : LaneCond) (size : AccessSize) (shape : LaneShape) (vm : Option RegNum)
    (vn vd : RegNum) (s : State) : Result :=
  let w := laneBits size
  .next (s.wrLanes w shape vd fun k =>
    laneMask w (laneCompare cond (s.lane w vn k)
      (match vm with
        | some m => s.lane w m k
        | none => 0#w)))

/-! ## Widening and narrowing (R414) -/

/-- Lane `k` of the low or upper half of a register, at double width. -/
def State.wideLane (s : State) (w : Nat) (signed upper : Bool) (v : RegNum) (k : Nat) : BitVec (2 * w) :=
  toBits (2 * w) (laneInt signed (s.lane w v (if upper then k + 64 / w else k)))

/-- A widening kernel: narrow lanes in, lanes of double width out (R414). -/
def execSimdWiden (op : LaneOp) (size : AccessSize) (signed upper : Bool) (vm vn vd : RegNum) (s : State) :
    Result :=
  let w := laneBits size
  whenNative (.simdWiden op size signed upper vm vn vd) s <|
    .next (s.wrLanes (2 * w) .full vd fun k =>
      laneFinish (2 * w) false false .none
        (lanePrimary op (2 * w) signed (s.lane (2 * w) vd k) (s.wideLane w signed upper vn k)
          (s.wideLane w signed upper vm k)))

/-- A narrowing kernel: the low or the saturated half; the "2" form writes the upper half of the
register and keeps the lower (R414). -/
def execSimdNarrow (size : AccessSize) (shift : Nat) (signed rounding : Bool) (sat : Saturation)
    (upper : Bool) (vn vd : RegNum) (s : State) : Result :=
  let w := laneBits size
  let narrow (k : Nat) : BitVec w :=
    laneFinish w rounding false sat
      (lanePrimary (if shift = 0 then .shl 0 else .shr shift) (2 * w) signed 0 (s.lane (2 * w) vn k) 0)
  let low := s.lane 64 vd 0
  let half : BitVec 64 := (ofLanes w narrow (64 / w)).setWidth 64
  whenNative (.simdNarrow size shift signed rounding sat upper vn vd) s <|
    .next (s.wrV vd (if upper then half ++ low else half.setWidth 128))

/-! ## Reductions, pairwise operations, tables (R418 to R420) -/

/-- All lanes combined, from the list of lanes. -/
def reduceInts (op : Reduction) : List Int → Int
  | [] => 0
  | i :: rest =>
    match op with
    | .addv | .saddlv | .uaddlv => rest.foldl (· + ·) i
    | .smaxv | .umaxv => rest.foldl max i
    | .sminv | .uminv => rest.foldl min i

/-- The reductions that read lanes as signed. -/
def reductionSigned : Reduction → Bool
  | .addv | .smaxv | .sminv | .saddlv => true
  | .umaxv | .uminv | .uaddlv => false

/-- The width of a reduction's result: double for the L forms (R418). -/
def reductionWidth (op : Reduction) (w : Nat) : Nat :=
  match op with
  | .saddlv | .uaddlv => 2 * w
  | .addv | .smaxv | .umaxv | .sminv | .uminv => w

/-- An integer reduction: lane 0, other lanes zero (R418). -/
def execSimdReduce (op : Reduction) (size : AccessSize) (shape : LaneShape) (vn vd : RegNum) (s : State) : Result :=
  let w := laneBits size
  let lanes := (List.range (laneCount shape w)).map fun k => laneInt (reductionSigned op) (s.lane w vn k)
  whenNative (.simdReduce op size shape vn vd) s <|
    .next (s.wrLanes (reductionWidth op w) .scalar vd fun _ => toBits (reductionWidth op w) (reduceInts op lanes))

/-- Byte `i` of a table of `count + 1` registers from `vn` on, numbers modulo 32; `none` out of range
(R420). -/
def State.tableByte (s : State) (vn : RegNum) (count : BitVec 2) (i : Nat) : Option Byte :=
  if i < 16 * (count.toNat + 1) then some (s.lane 8 (vn + BitVec.ofNat 5 (i / 16)) (i % 16)) else none

/-- TBL: out of range gives 0; TBX: out of range keeps the destination (R420). -/
def execSimdTable (extension : Bool) (count : BitVec 2) (shape : LaneShape) (vm vn vd : RegNum) (s : State) : Result :=
  whenNative (.simdTable extension count shape vm vn vd) s <|
    .next (s.wrLanes 8 shape vd fun k =>
      (s.tableByte vn count (s.lane 8 vm k).toNat).getD (if extension then s.lane 8 vd k else 0#8))

/-! ## Permutes (R414; PRESUMED, log 18) -/

/-- Lane `k` of `n` lanes of Vn, then `n` of Vm. -/
def State.pairLane (s : State) (w n : Nat) (vm vn : RegNum) (k : Nat) : BitVec w :=
  if k < n then s.lane w vn k else s.lane w vm (k - n)

/-- The lane of `n` of Vn, then `n` of Vm, that a permute puts in lane `k`. -/
def permuteSource (op : PermuteOp) (n k : Nat) : Nat :=
  match op with
  | .zip1 => k / 2 + k % 2 * n
  | .zip2 => n / 2 + k / 2 + k % 2 * n
  | .uzp1 => 2 * k
  | .uzp2 => 2 * k + 1
  | .trn1 => k / 2 * 2 + k % 2 * n
  | .trn2 => k / 2 * 2 + 1 + k % 2 * n

/-- ZIP1, ZIP2, UZP1, UZP2, TRN1, TRN2 (R414). -/
def execSimdPermute (op : PermuteOp) (size : AccessSize) (shape : LaneShape) (vm vn vd : RegNum) (s : State) :
    Result :=
  let w := laneBits size
  let n := laneCount shape w
  whenNative (.simdPermute op size shape vm vn vd) s <|
    .next (s.wrLanes w shape vd fun k => s.pairLane w n vm vn (permuteSource op n k))

/-- EXT: bytes from byte `imm` of Vn on, then bytes of Vm (R414). -/
def execSimdExt (shape : LaneShape) (imm : BitVec 4) (vm vn vd : RegNum) (s : State) : Result :=
  whenNative (.simdExt shape imm vm vn vd) s <|
    .next (s.wrLanes 8 shape vd fun k => s.pairLane 8 (laneCount shape 8) vm vn (imm.toNat + k))

/-- REV16, REV32, REV64: the lanes of each block in reverse order (R414). -/
def execSimdRev (block : Nat) (size : AccessSize) (shape : LaneShape) (vn vd : RegNum) (s : State) : Result :=
  let w := laneBits size
  let c := block / w
  whenNative (.simdRev block size shape vn vd) s <|
    .next (s.wrLanes w shape vd fun k => s.lane w vn (k / c * c + (c - 1 - k % c)))

/-! ## FP lanes (R414, R418, R419, R421) -/

/-- Lane `k` of a format. -/
def State.fpLane (s : State) (f : FpFormat) (v : RegNum) (k : Nat) : BitVec 64 :=
  (s.lane (fpBits f) v k).setWidth 64

/-- A write of every FP lane; the lanes' free NaNs are drawn (log 17). -/
def State.wrFpLanes (s : State) (f : FpFormat) (shape : LaneShape) (vd : RegNum) (g : Nat → BitVec 64) : State :=
  (s.wrLanes (fpBits f) shape vd fun k => (g k).setWidth (fpBits f)).drawnBy (laneCount shape (fpBits f))

/-- FP lanes, one source (R414). -/
def execSimdFp1 (op : Fp1Op) (f : FpFormat) (shape : LaneShape) (vn vd : RegNum) (s : State) : Result :=
  whenFp (.simdFp1 op f shape vn vd) s <|
    .next (s.wrFpLanes f shape vd fun k => fp1Result op f (s.fpEnv k) (s.fpLane f vn k))

/-- FP lanes, two sources (R414). -/
def execSimdFp2 (op : Fp2Op) (f : FpFormat) (shape : LaneShape) (vm vn vd : RegNum) (s : State) : Result :=
  whenFp (.simdFp2 op f shape vm vn vd) s <|
    .next (s.wrFpLanes f shape vd fun k => fp2Result op f (s.fpEnv k) (s.fpLane f vn k) (s.fpLane f vm k))

/-- Whether two FP lanes compare; a NaN compares false (R413, R414). -/
def fpLaneCompare (cond : FpLaneCond) (r : FpRelation) : Bool :=
  match cond, r with
  | .eq, .equal => true
  | .ge, .equal => true
  | .ge, .greater => true
  | .gt, .greater => true
  | .le, .equal => true
  | .le, .less => true
  | .lt, .less => true
  | _, _ => false

/-- FP lane compares (R413, R414). -/
def execSimdFpCompare (cond : FpLaneCond) (f : FpFormat) (shape : LaneShape) (vm : Option RegNum)
    (vn vd : RegNum) (s : State) : Result :=
  whenFp (.simdFpCompare cond f shape vm vn vd) s <|
    .next (s.wrLanes (fpBits f) shape vd fun k =>
      laneMask (fpBits f) (fpLaneCompare cond (fpCompare f (s.fpEnv 0).fz (s.fpLane f vn k)
        (match vm with
          | some m => s.fpLane f m k
          | none => 0#64))))

/-- FMLA, FMLS: fused, the destination lane the addend (R414). -/
def execSimdFmla (sub : Bool) (f : FpFormat) (shape : LaneShape) (vm vn vd : RegNum) (s : State) : Result :=
  whenFp (.simdFmla sub f shape vm vn vd) s <|
    .next (s.wrFpLanes f shape vd fun k =>
      fp3Result (if sub then .msub else .madd) f (s.fpEnv k) (s.fpLane f vd k) (s.fpLane f vn k) (s.fpLane f vm k))

/-- The format of half the size; half precision has none. -/
def narrowFormat : FpFormat → FpFormat
  | .double => .single
  | .single | .half => .half

/-- FCVTL, FCVTL2: lanes of half the size, widened to `f`; the "2" form reads the upper half (R414). -/
def execSimdFcvtl (f : FpFormat) (upper : Bool) (vn vd : RegNum) (s : State) : Result :=
  let g := narrowFormat f
  whenNativeFp (.simdFcvtl f upper vn vd) s <|
    .next (s.wrFpLanes f .full vd fun k =>
      fpConvert g f (s.fpEnv k) (s.fpLane g vn (if upper then k + 64 / fpBits g else k)))

/-- FCVTN, FCVTN2: lanes of `f`, narrowed; the "2" form writes the upper half and keeps the lower (R414). -/
def execSimdFcvtn (f : FpFormat) (upper : Bool) (vn vd : RegNum) (s : State) : Result :=
  let g := narrowFormat f
  let narrow (k : Nat) : BitVec (fpBits g) := (fpConvert f g (s.fpEnv k) (s.fpLane f vn k)).setWidth (fpBits g)
  let low := s.lane 64 vd 0
  let half : BitVec 64 := (ofLanes (fpBits g) narrow (64 / fpBits g)).setWidth 64
  whenNativeFp (.simdFcvtn f upper vn vd) s <|
    .next ((s.wrV vd (if upper then half ++ low else half.setWidth 128)).drawnBy (64 / fpBits g))

/-- The operation of an FP reduction (R418). -/
def fpReductionOp : FpReduction → Fp2Op
  | .max => .max
  | .min => .min
  | .maxnm => .maxnm
  | .minnm => .minnm

/-- Lanes combined in halves, `depth` times: lane `k` of `2^depth` (R418; PRESUMED, log 18). -/
def fpReduceTree (op : Fp2Op) (f : FpFormat) (env : FpEnv) (lane : Nat → BitVec 64) : (depth k : Nat) → BitVec 64
  | 0, k => lane k
  | d + 1, k => fp2Result op f env (fpReduceTree op f env lane d k) (fpReduceTree op f env lane d (k + 2 ^ d))

/-- An FP reduction (R418). -/
def execSimdFpReduce (op : FpReduction) (f : FpFormat) (shape : LaneShape) (vn vd : RegNum) (s : State) : Result :=
  whenNativeFp (.simdFpReduce op f shape vn vd) s <|
    .next (s.wrFp f vd (fpReduceTree (fpReductionOp op) f (s.fpEnv 0) (s.fpLane f vn)
      (laneCount shape (fpBits f)).log2 0))

/-- The operation of an FP pairwise instruction (R419). -/
def fpPairwiseOp : FpPairwise → Fp2Op
  | .add => .add
  | .max => .max
  | .min => .min
  | .maxnm => .maxnm
  | .minnm => .minnm

/-- Lane `k` of the concatenation Vn:Vm of `n` lanes each (R419). DEDUCED: by R8 `a : b` has `a` in the high
bits, so the lanes of Vm come first (log 18; the A64 architecture has those of Vn first). -/
def State.concatLane (s : State) (f : FpFormat) (n : Nat) (vm vn : RegNum) (k : Nat) : BitVec 64 :=
  if k < n then s.fpLane f vm k else s.fpLane f vn (k - n)

/-- FP pairwise: adjacent lanes of the concatenation combine (R419). -/
def execSimdFpPairwise (op : FpPairwise) (f : FpFormat) (shape : LaneShape) (vm vn vd : RegNum) (s : State) : Result :=
  let n := laneCount shape (fpBits f)
  whenNativeFp (.simdFpPairwise op f shape vm vn vd) s <|
    .next (s.wrFpLanes f shape vd fun k =>
      fp2Result (fpPairwiseOp op) f (s.fpEnv k) (s.concatLane f n vm vn (2 * k)) (s.concatLane f n vm vn (2 * k + 1)))

/-- Lane conversions to integer or fixed point (R421). -/
def execSimdFpToInt (f : FpFormat) (shape : LaneShape) (signed : Bool) (mode : Rounding) (fbits : Nat)
    (vn vd : RegNum) (s : State) : Result :=
  whenNativeFp (.simdFpToInt f shape signed mode fbits vn vd) s <|
    .next (s.wrLanes (fpBits f) shape vd fun k =>
      fpToInt f (s.fpEnv 0).fz (fpBits f) signed mode fbits (s.fpLane f vn k))

/-- Lane conversions from integer or fixed point (R421). -/
def execSimdIntToFp (f : FpFormat) (shape : LaneShape) (signed : Bool) (fbits : Nat) (vn vd : RegNum) (s : State) :
    Result :=
  whenNativeFp (.simdIntToFp f shape signed fbits vn vd) s <|
    .next (s.wrFpLanes f shape vd fun k => intToFp f (s.fpEnv k) signed fbits (s.lane (fpBits f) vn k))

end Sys2Proof.Machine
end

