-- ==== Sys2Proof/Machine/Sve.lean ====
section
/-! DEFINITION. The SVE engine (spec/49_fp_simd_sve.md R422 to R433). -/

namespace Sys2Proof.Machine

/-! ## Elements (R422) -/

/-- Bytes of an element. -/
def elemBytes (size : AccessSize) : Nat := accessBytes size

/-- Elements of a register: VL/(8L) (R422). -/
def State.elements (s : State) (size : AccessSize) : Nat := s.platform.vl / (8 * elemBytes size)

/-- The predicate with bit `l * k` set for the elements `k < e` that `f` chooses, every other bit
clear. -/
def predOf (l e : Nat) (f : Nat → Bool) : BitVec 256 :=
  bitsOfFn 256 fun i => decide (i % l = 0) && decide (i / l < e) && f (i / l)

/-- `PTestFlags(g, p, L)` of this machine (R423). -/
def State.ptest (s : State) (g p : BitVec 256) (size : AccessSize) : Nzcv :=
  ptestFlags g p (elemBytes size) (s.elements size)

/-- A write of every element of a Z register. -/
def State.wrElems (s : State) (size : AccessSize) (zd : RegNum) (f : Nat → BitVec (laneBits size)) : State :=
  s.wrZ zd ((ofLanes (laneBits size) f (s.elements size)).setWidth 2048)

/-! ## Predicates (R423 to R425) -/

/-- PTEST (R423). -/
def execPtest (pg pn : PredNum) (s : State) : Result := .next (s.setFlags (s.ptest (s.pReg pg) (s.pReg pn) .b))

/-- How many leading elements a pattern names, of `e` (R424). -/
def patternCount (pattern : PredPattern) (e : Nat) : Nat :=
  match pattern with
  | .pow2 => if e = 0 then 0 else 2 ^ e.log2
  | .vl n => if n ≤ e then n else 0
  | .mul4 => e - e % 4
  | .mul3 => e - e % 3
  | .all => e
  | .unnamed => 0

/-- A predicate result, with flags of the test against a governing predicate where asked. -/
def State.wrPredFlags (s : State) (pd : PredNum) (result : BitVec 256) (flags : Option Nzcv) : State :=
  match flags with
  | none => s.wrP pd result
  | some f => (s.wrP pd result).setFlags f

/-- PTRUE, PTRUES (R424). -/
def execPtrue (setFlags : Bool) (pattern : PredPattern) (size : AccessSize) (pd : PredNum) (s : State) : Result :=
  let e := s.elements size
  let result := predOf (elemBytes size) e fun k => decide (k < patternCount pattern e)
  .next (s.wrPredFlags pd result (if setFlags then some (s.ptest result result size) else none))

/-- PFALSE (R424). -/
def execPfalse (pd : PredNum) (s : State) : Result := .next (s.wrP pd 0#256)

/-- The bitwise operation of a predicate logical, masked by the governing predicate (R425). -/
def predLogicalResult (op : PredLogical) (g n m : BitVec 256) : BitVec 256 :=
  match op with
  | .and => (n &&& m) &&& g
  | .bic => (n &&& ~~~m) &&& g
  | .eor => (n ^^^ m) &&& g
  | .nand => ~~~(n &&& m) &&& g
  | .nor => ~~~(n ||| m) &&& g
  | .orn => (n ||| ~~~m) &&& g
  | .orr => (n ||| m) &&& g
  | .sel => (n &&& g) ||| (m &&& ~~~g)

/-- Predicate logicals; the S forms test the result (R425). -/
def execPredLogical (op : PredLogical) (setFlags : Bool) (pg pm pn pd : PredNum) (s : State) : Result :=
  let result := predLogicalResult op (s.pReg pg) (s.pReg pn) (s.pReg pm)
  .next (s.wrPredFlags pd result (if setFlags then some (s.ptest (s.pReg pg) result .b) else none))

/-! ## WHILE (R426) -/

/-- Whether `a + k` passes the end of the `n`-bit range (U9). -/
def whileWraps (n : Nat) (signed : Bool) (a : BitVec n) (k : Nat) : Bool :=
  decide (laneInt signed a + k > intMax n signed)

/-- Whether the conditions of WHILE read their operands as signed. -/
def whileSigned : WhileCond → Bool
  | .lt | .le => true
  | .lo | .ls => false

/-- The comparison of one element; at and after a wrap any value (R426, U9). -/
def whileTest (cond : WhileCond) (n : Nat) (a b : BitVec n) (free : BitVec 256) (k : Nat) : Bool :=
  let signed := whileSigned cond
  if whileWraps n signed a k then free.getLsbD k
  else
    match cond with
    | .lt | .lo => decide (laneInt signed a + k < laneInt signed b)
    | .le | .ls => decide (laneInt signed a + k ≤ laneInt signed b)

/-- Element `k` holds while every element up to it does (R426). -/
def whileHolds (test : Nat → Bool) : Nat → Bool
  | 0 => test 0
  | k + 1 => whileHolds test k && test (k + 1)

/-- WHILELT, WHILELE, WHILELO, WHILELS: flags by the test under an all-true predicate (R426). -/
def execWhileLanes (cond : WhileCond) (sf : Bool) (size : AccessSize) (rm rn : RegNum) (pd : PredNum) (s : State) :
    Result :=
  let n := width sf
  let e := s.elements size
  let test := whileTest cond n (s.rz n rn) (s.rz n rm) (Config.freePredicate s.freeCount)
  let result := predOf (elemBytes size) e (whileHolds test)
  let allTrue := predOf (elemBytes size) e fun _ => true
  .next ((s.wrPredFlags pd result (some (s.ptest allTrue result size))).drawn)

/-! ## Compares (R427, R428) -/

/-- The conditions that read lanes as unsigned (R427). -/
def condUnsigned : LaneCond → Bool
  | .hs | .hi | .ls | .lo => true
  | .eq | .ne | .ge | .gt | .le | .lt => false

/-- A condition on two integers. -/
def intCompare (cond : LaneCond) (a b : Int) : Bool :=
  match cond with
  | .eq => decide (a = b)
  | .ne => decide (a ≠ b)
  | .ge | .hs => decide (b ≤ a)
  | .gt | .hi => decide (b < a)
  | .le | .ls => decide (a ≤ b)
  | .lt | .lo => decide (a < b)

/-- The second operand of element `k`: the element, the doubleword that covers it, or the immediate
(R427). -/
def State.sveOperand (s : State) (operand : SveOperand) (size : AccessSize) (signed : Bool) (k : Nat) : Int :=
  match operand with
  | .vector zm => laneInt signed (s.lane (laneBits size) zm k)
  | .wide zm => laneInt signed (s.lane 64 zm (k * elemBytes size / 8))
  | .immediate imm => imm

/-- Vector compares: inactive elements give 0, flags by the test (R427). -/
def execSveCompare (cond : LaneCond) (size : AccessSize) (operand : SveOperand) (pg : PredNum) (zn : RegNum)
    (pd : PredNum) (s : State) : Result :=
  let signed := !condUnsigned cond
  let result := predOf (elemBytes size) (s.elements size) fun k =>
    predElem (s.pReg pg) (elemBytes size) k &&
      intCompare cond (laneInt signed (s.lane (laneBits size) zn k)) (s.sveOperand operand size signed k)
  .next (s.wrPredFlags pd result (some (s.ptest (s.pReg pg) result size)))

/-- CTERMEQ, CTERMNE (R428). -/
def execCterm (ne sf : Bool) (rm rn : RegNum) (s : State) : Result :=
  let equal := decide (s.rz (width sf) rn = s.rz (width sf) rm)
  .next (s.setFlags (ctermFlags (if ne then !equal else equal) s.nzcv))

/-! ## INDEX, counts, MOVPRFX (R429, R432, R433) -/

/-- Start or step of INDEX at the element's width (R429). -/
def State.indexOperand (s : State) (w : Nat) : IndexOperand → BitVec w
  | .register r => (s.rz 64 r).setWidth w
  | .immediate imm5 => imm5.signExtend w

/-- INDEX: element `k` is `start + k * step`, truncated (R429). -/
def execIndex (size : AccessSize) (start step : IndexOperand) (zd : RegNum) (s : State) : Result :=
  .next (s.wrElems size zd fun k =>
    s.indexOperand (laneBits size) start + BitVec.ofNat (laneBits size) k * s.indexOperand (laneBits size) step)

/-- The active elements of a predicate (R432). -/
def State.activeCount (s : State) (size : AccessSize) (pm : PredNum) : Nat :=
  ((List.range (s.elements size)).filter fun k => predElem (s.pReg pm) (elemBytes size) k).length

/-- Adjustment of a general register by a count: modulo 2^64, or saturated at W or X size. A W-sized count
is a write of W width, which clears the upper half (R23). DEDUCED for the signed one, as R432 names no
other width (log 19). -/
def State.adjust (s : State) (mode : CountMode) (delta : Int) (rd : RegNum) : State :=
  match mode with
  | .plain => s.wrRz rd (toBits 64 ((s.rz 64 rd).toNat + delta))
  | .unsigned false => s.wrRz rd (saturate 32 false ((s.rz 32 rd).toNat + delta))
  | .unsigned true => s.wrRz rd (saturate 64 false ((s.rz 64 rd).toNat + delta))
  | .signed true => s.wrRz rd (saturate 64 true ((s.rz 64 rd).toInt + delta))
  | .signed false => s.wrRz rd (saturate 32 true ((s.rz 32 rd).toInt + delta))

/-- A count, negative for a decrement (R432). -/
def State.countDelta (s : State) (dec : Bool) (size : AccessSize) (pm : PredNum) : Int :=
  if dec then -(s.activeCount size pm : Int) else s.activeCount size pm

/-- INCP, DECP, SQINCP, UQINCP, SQDECP, UQDECP, scalar (R432). -/
def execIncDec (dec : Bool) (mode : CountMode) (size : AccessSize) (pm : PredNum) (rd : RegNum) (s : State) : Result :=
  .next (s.adjust mode (s.countDelta dec size pm) rd)

/-- An element adjusted by a count: modulo its size, or saturated at it. -/
def adjustElem (w : Nat) (mode : ElemCountMode) (delta : Int) (v : BitVec w) : BitVec w :=
  match mode with
  | .plain => toBits w (v.toNat + delta)
  | .signed => saturate w true (v.toInt + delta)
  | .unsigned => saturate w false (v.toNat + delta)

/-- The same to a vector: every element is adjusted by the count. PRESUMED: R432 gives "the destination"
and names the scalar forms as some among others (log 19). -/
def execIncDecVector (dec : Bool) (mode : ElemCountMode) (size : AccessSize) (pm : PredNum) (zd : RegNum) (s : State) :
    Result :=
  whenNative (.incDecVector dec mode size pm zd) s <|
    .next (s.wrElems size zd fun k =>
      adjustElem (laneBits size) mode (s.countDelta dec size pm) (s.lane (laneBits size) zd k))

/-- MOVPRFX: a copy, merging or zeroing under a predicate; the loop sets the latch (R433, R320). -/
def execMovprfx (form : MovprfxForm) (size : AccessSize) (zn zd : RegNum) (s : State) : Result :=
  match form with
  | .whole => .next (s.wrZ zd (s.zReg zn))
  | .merging pg =>
    .next (s.wrElems size zd fun k =>
      if predElem (s.pReg pg) (elemBytes size) k then s.lane (laneBits size) zn k else s.lane (laneBits size) zd k)
  | .zeroing pg =>
    .next (s.wrElems size zd fun k =>
      if predElem (s.pReg pg) (elemBytes size) k then s.lane (laneBits size) zn k else 0#(laneBits size))

end Sys2Proof.Machine
end

