-- ==== Sys2Proof/Machine/NativeDispatch.lean ====
section
/-! DEFINITION. Which meaning each native command has (spec/30_encoding.md R90). Each that the spec
refuses or has no rule for stops by name. -/

namespace Sys2Proof.Machine

/-- The name of a pointer-authentication instruction (R310, R337, R371). -/
def pacName : PacOp → String
  | .pacia => "PACIA"
  | .pacib => "PACIB"
  | .pacda => "PACDA"
  | .pacdb => "PACDB"
  | .paciza => "PACIZA"
  | .pacizb => "PACIZB"
  | .pacdza => "PACDZA"
  | .pacdzb => "PACDZB"
  | .autia => "AUTIA"
  | .autib => "AUTIB"
  | .autda => "AUTDA"
  | .autdb => "AUTDB"
  | .autiza => "AUTIZA"
  | .autizb => "AUTIZB"
  | .autdza => "AUTDZA"
  | .autdzb => "AUTDZB"
  | .xpaci => "XPACI"
  | .xpacd => "XPACD"
  | .pacga => "PACGA"
  | .braa => "BRAA"
  | .braaz => "BRAAZ"
  | .brab => "BRAB"
  | .brabz => "BRABZ"
  | .blraa => "BLRAA"
  | .blraaz => "BLRAAZ"
  | .blrab => "BLRAB"
  | .blrabz => "BLRABZ"
  | .retaa => "RETAA"
  | .retab => "RETAB"
  | .ldraa => "LDRAA"
  | .ldrab => "LDRAB"

/-- A pointer-authentication command is refused by name (R465). -/
def execPac (op : PacOp) (fields : Nat) (s : State) : Result :=
  s.refuse (.pointerAuthentication · (pacName op) (.native (.pac op fields)))

/-- A command without a rule is unimplemented; the fault records the command (R374, R384, R393, R430, R435,
R453, R456). -/
def execUnmodelled (op : UnmodelledOp) (fields : Nat) (s : State) : Result :=
  s.raise (.unimplemented · (.native (.unmodelled op fields)))

/-- The native command's own effect. -/
def execNative (c : NativeCmd) (s : State) : Result :=
  match c with
  | .ldpsw mode rt2 rn rt => execLdpsw mode rt2 rn rt s
  | .ldxp sf acq rt2 rn rt => execLdxp sf acq rt2 rn rt s
  | .stxp sf rel rs rt2 rn rt => execStxp sf rel rs rt2 rn rt s
  | .casp sf acq rel rs rn rt => execCasp sf acq rel rs rn rt s
  | .ldapur size imm9 rn rt => execLdapur size imm9 rn rt s
  | .stlur size imm9 rn rt => execStlur size imm9 rn rt s
  | .ldrVector size mode rn vt => execLdrVector size mode rn vt s
  | .strVector size mode rn vt => execStrVector size mode rn vt s
  | .ldpVector size mode vt2 rn vt => execLdpVector size mode vt2 rn vt s
  | .stpVector size mode vt2 rn vt => execStpVector size mode vt2 rn vt s
  | .ldrVectorLiteral size imm19 vt => execLdrVectorLiteral size imm19 vt s
  | .pac op fields => execPac op fields s
  | .unmodelled op fields => execUnmodelled op fields s
  | .fmovImmediate f imm vd => execFmovImmediate f imm vd s
  | .fp1 op f vn vd => execFp1 op f vn vd s
  | .fcvt source target vn vd => execFcvt source target vn vd s
  | .fp2 op f vm vn vd => execFp2 op f vm vn vd s
  | .fp3 op f vm va vn vd => execFp3 op f vm va vn vd s
  | .fcmp signalling f vm vn => execFcmp signalling f vm vn s
  | .fccmp signalling f vm cond vn nzcv => execFccmp signalling f vm cond vn nzcv s
  | .fcsel f vm cond vn vd => execFcsel f vm cond vn vd s
  | .fpToInt f sf signed mode fbits vn rd => execFpToInt f sf signed mode fbits vn rd s
  | .intToFp f sf signed fbits rn vd => execIntToFp f sf signed fbits rn vd s
  | .fjcvtzs vn rd => execFjcvtzs vn rd s
  | .fmovToGeneral form vn rd => execFmovToGeneral form vn rd s
  | .fmovFromGeneral form rn vd => execFmovFromGeneral form rn vd s
  | .simdArith op size shape signed rounding halving sat vm vn vd => execSimdArith op size shape signed rounding halving sat vm vn vd s
  | .simdCompare cond size shape vm vn vd => execSimdCompare cond size shape vm vn vd s
  | .simdWiden op size signed upper vm vn vd => execSimdWiden op size signed upper vm vn vd s
  | .simdNarrow size shift signed rounding sat upper vn vd => execSimdNarrow size shift signed rounding sat upper vn vd s
  | .simdReduce op size shape vn vd => execSimdReduce op size shape vn vd s
  | .simdTable extension count shape vm vn vd => execSimdTable extension count shape vm vn vd s
  | .simdPermute op size shape vm vn vd => execSimdPermute op size shape vm vn vd s
  | .simdExt shape imm vm vn vd => execSimdExt shape imm vm vn vd s
  | .simdRev block size shape vn vd => execSimdRev block size shape vn vd s
  | .simdFp1 op f shape vn vd => execSimdFp1 op f shape vn vd s
  | .simdFp2 op f shape vm vn vd => execSimdFp2 op f shape vm vn vd s
  | .simdFpCompare cond f shape vm vn vd => execSimdFpCompare cond f shape vm vn vd s
  | .simdFmla sub f shape vm vn vd => execSimdFmla sub f shape vm vn vd s
  | .simdFcvtl f upper vn vd => execSimdFcvtl f upper vn vd s
  | .simdFcvtn f upper vn vd => execSimdFcvtn f upper vn vd s
  | .simdFpReduce op f shape vn vd => execSimdFpReduce op f shape vn vd s
  | .simdFpPairwise op f shape vm vn vd => execSimdFpPairwise op f shape vm vn vd s
  | .simdFpToInt f shape signed mode fbits vn vd => execSimdFpToInt f shape signed mode fbits vn vd s
  | .simdIntToFp f shape signed fbits vn vd => execSimdIntToFp f shape signed fbits vn vd s
  | .ptest pg pn => execPtest pg pn s
  | .ptrue setFlags pattern size pd => execPtrue setFlags pattern size pd s
  | .pfalse pd => execPfalse pd s
  | .predLogical op setFlags pg pm pn pd => execPredLogical op setFlags pg pm pn pd s
  | .whileLanes cond sf size rm rn pd => execWhileLanes cond sf size rm rn pd s
  | .sveCompare cond size operand pg zn pd => execSveCompare cond size operand pg zn pd s
  | .cterm ne sf rm rn => execCterm ne sf rm rn s
  | .index size start step zd => execIndex size start step zd s
  | .incDec dec mode size pm rd => execIncDec dec mode size pm rd s
  | .incDecVector dec mode size pm zd => execIncDecVector dec mode size pm zd s
  | .movprfx form size zn zd => execMovprfx form size zn zd s
  | .ldrZ offset rn zt => execLdrZ offset rn zt s
  | .strZ offset rn zt => execStrZ offset rn zt s
  | .ldrP offset rn pt => execLdrP offset rn pt s
  | .strP offset rn pt => execStrP offset rn pt s

/-- MOVPRFX alone sets the latch (R45, R320). -/
def isMovprfx : NativeCmd → Bool
  | .movprfx _ _ _ _ => true
  | _ => false

end Sys2Proof.Machine
end

