-- ==== Sys2Proof/Machine/Loop.lean ====
section
/-! DEFINITION. The parts of the driver loop (spec/46_pcrel_branch.md R320, R338, R339;
spec/60_exceptions.md R467), which Sys2Proof.Machine.Step puts together. -/

namespace Sys2Proof.Machine

/-- What follows a step of execution, where there is a next state. -/
def onNext (r : Result) (f : State → State) : Result :=
  match r with
  | .next t => .next (f t)
  | .fault e => .fault e
  | .refused e => .refused e

/-- Whether an instruction may be landed on under a BType other than Default (R339). -/
def btiPermits (i : Instr) (b : BType) : Bool :=
  match i with
  | .btiJc => true
  | .btiC => decide (b ≠ .branchFromGuardedNotToIP)
  | .btiJ => decide (b ≠ .branchAndLink)
  | .hlt _ => true
  | _ => false

/-- `BtiCheck`: `permits` says whether the command may be landed on (R339, log 21). -/
def State.btiCheck (s : State) (permits : Bool) (k : Result) : Result :=
  if s.guardedPage s.pc = true ∧ s.btype ≠ .default ∧ permits = false then s.raise (.btiViolation · s.btype)
  else k

/-- `pc_modified` is clear when an instruction starts (R31, R320). -/
def State.begin (s : State) : State := { s with pcModified := false }

/-- What the loop does after an instruction: advance PC unless it was written, move next BType to
current, set or clear the movprfx latch (R320, R338, R45). -/
def State.retire (s : State) (isMovprfx : Bool) : State :=
  { s with
    pc := if s.pcModified then s.pc else s.pc + 4#64
    btype := s.btypeNext
    btypeNext := .default
    movprfx := isMovprfx }

/-- One decoded instruction within the loop: the BTI check, its meaning, and what follows (R320). -/
def State.runInstr (s : State) (i : Instr) : Result :=
  s.btiCheck (btiPermits i s.btype) <| onNext (exec i s.begin) fun t => t.retire false

/-- One native command within the loop; an ill-formed one faults at decode (R320, R467). -/
def State.runNative (s : State) (c : NativeCmd) : Result :=
  whenNative c s <| s.btiCheck false <| onNext (execNative c s.begin) fun t => t.retire (isMovprfx c)

/-- A word that is no instruction: an unallocated one faults at decode, before the BTI check; the
others after it (R455, R456, R465, R467). -/
def State.runRejected (s : State) (word : BitVec 32) : Reject → Result
  | .unallocated => s.raise (.unallocated · word)
  | .unimplemented => s.btiCheck false <| s.raise (.unimplemented · (.word word))
  | .pointerAuthentication name => s.btiCheck false <| s.refuse (.pointerAuthentication · name (.word word))

/-- What a step checks before it decodes, in this order: the status, the end of the run, PC's
alignment, the address of the fetch (R320, R49, R467). -/
def State.beforeDecode (s : State) (k : Result) : Result :=
  if s.status ≠ .running then .refused .notRunning
  else if s.pc = endOfSimAddress then .next { s with status := .exited }
  else if s.pc.toNat % 4 ≠ 0 then s.raise .pcAlignment
  else s.checkValid s.pc 4 k

end Sys2Proof.Machine
end

