-- ==== Sys2Proof/Machine/Step.lean ====
section
/-! DEFINITION. One step of the machine (spec/46_pcrel_branch.md R320). -/

namespace Sys2Proof.Machine

/-- `Step()`: fetch, decode, execute (R320). -/
def step (s : State) : Host.Outcome State Fault Refusal :=
  s.beforeDecode <|
    match decode s.fetchWord with
    | .instr i => s.runInstr i
    | .rejected r => s.runRejected s.fetchWord r

/-- `Step()` of a machine whose decoder hands the fetched word to the core as a native command
(R90, log 16). -/
def stepNative (c : NativeCmd) (s : State) : Host.Outcome State Fault Refusal :=
  s.beforeDecode (s.runNative c)

/-- The whole transition, in which a stop is recorded in the status and a machine that is not running
stays as it is (R49, R452). -/
def advance (s : State) : State :=
  match s.status with
  | .running => s.settle (step s)
  | _ => s

/-- The state whose next step fetches the word with bits `w`: a program is put in memory from outside
(log 5). -/
def State.withFetchWord (s : State) (nbits w : Nat) : State :=
  { s with mem := Memory.write s.mem s.pc (tableWord nbits w) 4 }

end Sys2Proof.Machine
end

