-- ==== Sys2Proof/Machine/Reset.lean ====
section
/-! DEFINITION. Reset of a machine that exists, a change of VL, and the start of a run
(spec/70_reset_and_hazards.md R480 to R484). The host does these between runs; no step does. -/

namespace Sys2Proof.Machine

/-- Reset of `s`: every state element takes its reset value; the memory image, the feature set, VL and
the other parameters stay (R481, R482), and so does PC, which "is not set by reset" and takes ENTRY when a
run starts (R48, `State.startRun`). The model's counter stays too: it is no state of the hardware (log 2). -/
def State.resetOf (s : State) : State :=
  { State.resetWith s.platform with
    pc := s.pc
    mem := s.mem
    features := s.features
    freeCount := s.freeCount }

/-- A change of VL, which is allowed before the first run: V and P registers are reset, and nothing else
changes (R482). -/
def State.withVl (s : State) (vl : Nat) : State :=
  { s with
    platform := { s.platform with vl := vl }
    z := vectorsAtReset vl
    p := predicatesAtReset vl }

/-- `Run(ENTRY)`: PC at the host's entry, status Running; the steps follow (R483). -/
def State.startRun (s : State) (entry : Word) : State := { s with pc := entry, status := .running }

end Sys2Proof.Machine
end

