-- ==== Sys2Proof/Machine/Simulator.lean ====
section
/-! DEFINITION. The simulator around the machine: the stack of saved feature sets, which is "not state of the
hardware" (spec/10_state.md R52) and which two of the host's services manage (spec/48_system.md R392). The
machine leaves the feature set after a restore free; here the host puts back what it saved. -/

namespace Sys2Proof.Machine

/-- A machine and the snapshots its host holds, the latest first (R52, R392; any number, log 4). -/
structure Simulator where
  machine : State
  snapshots : List (List Feature)
  deriving DecidableEq, Repr

/-- Right after reset the host holds no snapshot (DESIGN CHOICE, log 4). -/
def Simulator.resetWith (p : Platform) : Simulator := { machine := State.resetWith p, snapshots := [] }

/-- What the host does with its snapshots when `m` has answered the instruction `i` with the state `t`
(R392). A restore without a snapshot leaves the free feature set of the machine (log 4). -/
def Simulator.after (m : Simulator) (i : Instr) (t : State) : Simulator :=
  match i with
  | .hlt imm16 =>
    match m.machine.serviceOf imm16, m.snapshots with
    | some (.saveFeatures _), saved => { machine := t, snapshots := m.machine.features :: saved }
    | some (.restoreFeatures _), fs :: rest => { machine := { t with features := fs }, snapshots := rest }
    | _, saved => { machine := t, snapshots := saved }
  | _ => { m with machine := t }

/-- An instruction of the machine, and what the host does after it. -/
def Simulator.exec (i : Instr) (m : Simulator) : Host.Outcome Simulator Fault Refusal :=
  match Machine.exec i m.machine with
  | .next t => .next (m.after i t)
  | .fault f => .fault f
  | .refused r => .refused r

/-- A step of the machine, and what the host does after it; at the end of the run nothing is executed
(R320, R392). -/
def Simulator.step (m : Simulator) : Host.Outcome Simulator Fault Refusal :=
  match Machine.step m.machine with
  | .next t =>
    if m.machine.pc = endOfSimAddress then .next { m with machine := t }
    else
      match decode m.machine.fetchWord with
      | .instr i => .next (m.after i t)
      | .rejected _ => .next { m with machine := t }
  | .fault f => .fault f
  | .refused r => .refused r

end Sys2Proof.Machine
end

