-- ==== Sys2Proof/Safety.lean ====
section
/-! DEFINITION. The terms statements use: what holds of every state the machine should be in, frames
(what an instruction leaves alone), the loads and stores by kind, and what a safe run is. -/

namespace Sys2Proof.Machine

/-! ## The invariant -/

/-- The state is well formed: memory in canonical form, vector and predicate registers no longer than
VL and VL/8 (R38, R39), next BType at Default between instructions (R44), parameters as R7 allows. -/
structure State.Inv (s : State) : Prop where
  memory : Memory.wf s.mem = true
  vectors : ∀ i : RegNum, s.zReg i &&& s.zMask = s.zReg i
  predicates : ∀ i : BitVec 4, s.pReg i &&& s.pMask = s.pReg i
  btypeNext : s.btypeNext = .default
  platform : s.platform.wf = true

/-! ## Frames -/

/-- Two states agree on all that no data-processing instruction, branch, load or store changes. -/
structure State.SameUnits (s t : State) : Prop where
  fpcr : t.fpcr = s.fpcr
  rndr : t.rndr = s.rndr
  z : t.z = s.z
  p : t.p = s.p
  btype : t.btype = s.btype
  movprfx : t.movprfx = s.movprfx
  status : t.status = s.status
  features : t.features = s.features
  freeCount : t.freeCount = s.freeCount
  platform : t.platform = s.platform

/-- PC is as before, and the instruction is no branch. -/
structure State.SamePc (s t : State) : Prop where
  pc : t.pc = s.pc
  pcModified : t.pcModified = s.pcModified
  btypeNext : t.btypeNext = s.btypeNext

/-- Every byte of memory reads as before, and both monitors are as before. -/
structure State.SameMemory (s t : State) : Prop where
  bytes : ∀ a, t.byteAt a = s.byteAt a
  image : t.mem = s.mem
  localMonitor : t.localMonitor = s.localMonitor
  globalMonitor : t.globalMonitor = s.globalMonitor

/-- The only register written is `rd`, in zero-register mode, with `v`: register 31 takes nothing
(R22, R23, R25). -/
structure State.WroteRz (s t : State) {n : Nat} (rd : RegNum) (v : BitVec n) : Prop where
  dest : rd ≠ 31#5 → t.xReg rd.toNat = v.setWidth 64
  others : ∀ j, rd = 31#5 ∨ j ≠ rd.toNat → t.xReg j = s.xReg j
  sp : t.sp = s.sp

/-- The only register written is `rd`, in stack-pointer mode, with `v`: register 31 is SP (R27). -/
structure State.WroteRsp (s t : State) {n : Nat} (rd : RegNum) (v : BitVec n) : Prop where
  dest : rd ≠ 31#5 → t.xReg rd.toNat = v.setWidth 64
  destSp : rd = 31#5 → t.sp = v.setWidth 64
  others : ∀ j, rd = 31#5 ∨ j ≠ rd.toNat → t.xReg j = s.xReg j
  sp : rd ≠ 31#5 → t.sp = s.sp

/-- No general register is written, and SP is as before. -/
structure State.SameRegs (s t : State) : Prop where
  x : ∀ j, t.xReg j = s.xReg j
  sp : t.sp = s.sp

/-- Everything but the general registers, SP and the flags is as before. -/
structure State.SameButRegisters (s t : State) : Prop where
  pc : s.SamePc t
  memory : s.SameMemory t
  units : s.SameUnits t

/-- Everything but the general registers, SP, memory and the monitors is as before. -/
structure State.SameButMemory (s t : State) : Prop where
  pc : s.SamePc t
  flags : t.nzcv = s.nzcv
  units : s.SameUnits t

/-- An instruction whose whole effect is a write of `rd` in zero-register mode. -/
def State.OnlyRz (s t : State) {n : Nat} (rd : RegNum) (v : BitVec n) : Prop :=
  s.WroteRz t rd v ∧ t.nzcv = s.nzcv ∧ s.SameButRegisters t

/-- An instruction whose whole effect is a write of `rd` in stack-pointer mode. -/
def State.OnlyRsp (s t : State) {n : Nat} (rd : RegNum) (v : BitVec n) : Prop :=
  s.WroteRsp t rd v ∧ t.nzcv = s.nzcv ∧ s.SameButRegisters t

/-- An instruction whose whole effect is a write of `rd` in zero-register mode and of the flags. -/
def State.RzAndFlags (s t : State) {n : Nat} (rd : RegNum) (v : BitVec n) (f : Nzcv) : Prop :=
  s.WroteRz t rd v ∧ t.nzcv = f ∧ s.SameButRegisters t

/-- An instruction whose whole effect is a write of the flags. -/
def State.OnlyFlags (s t : State) (f : Nzcv) : Prop :=
  s.SameRegs t ∧ t.nzcv = f ∧ s.SameButRegisters t

/-- A branch goes to `target`; memory, flags and all but the link register, which the statement gives,
are as before. -/
structure State.Branched (s t : State) (target : Word) : Prop where
  pc : t.pc = target
  pcModified : t.pcModified = true
  sp : t.sp = s.sp
  flags : t.nzcv = s.nzcv
  memory : s.SameMemory t
  units : s.SameUnits t

/-- The bytes `addr`, ..., `addr + size - 1` take the low bytes of `v`; every other byte reads as before. -/
structure State.Stored (s t : State) {w : Nat} (addr : Word) (size : Nat) (v : BitVec w) : Prop where
  bytes : ∀ k < size, t.byteAt (byteAddress addr k) = v.extractLsb' (8 * k) 8
  others : ∀ a, (∀ k < size, a ≠ byteAddress addr k) → t.byteAt a = s.byteAt a

/-! ## Sums and differences as integers (R132, R170) -/

/-- Whether an integer is no `n`-bit signed value. -/
def outOfRange (n : Nat) (k : Int) : Bool := decide (k < -2 ^ (n - 1) ∨ 2 ^ (n - 1) - 1 < k)

/-- The flags of a result, its carry and its overflow. -/
def flagsOf (n : Nat) (v : BitVec n) (carry overflow : Bool) : Nzcv :=
  { n := v.msb, z := decide (v.toNat = 0), c := carry, v := overflow }

/-- `a + b + c` modulo 2^n. -/
def sumOf (n : Nat) (a b : BitVec n) (c : Nat) : BitVec n := BitVec.ofNat n (a.toNat + b.toNat + c)

/-- The flags of `a + b + c`: carry is unsigned overflow, V signed overflow. -/
def sumFlags (n : Nat) (a b : BitVec n) (c : Nat) : Nzcv :=
  flagsOf n (sumOf n a b c) (decide (2 ^ n ≤ a.toNat + b.toNat + c)) (outOfRange n (a.toInt + b.toInt + c))

/-- `a - b - 1 + c` modulo 2^n; `c = 1` is a subtraction without borrow. -/
def differenceOf (n : Nat) (a b : BitVec n) (c : Nat) : BitVec n :=
  BitVec.ofInt n ((a.toNat : Int) - b.toNat - 1 + c)

/-- The flags of `a - b - 1 + c`: carry means no borrow. -/
def differenceFlags (n : Nat) (a b : BitVec n) (c : Nat) : Nzcv :=
  flagsOf n (differenceOf n a b c) (decide (b.toNat + 1 ≤ a.toNat + c))
    (outOfRange n (a.toInt - b.toInt - 1 + c))

/-! ## Loads and stores by kind (R355) -/

/-- Whether the instruction stores. -/
def kindStores : LdStKind → Bool
  | .strb | .strh | .strW | .strX => true
  | .ldrb | .ldrsbX | .ldrsbW | .ldrh | .ldrshX | .ldrshW | .ldrW | .ldrsw | .ldrX => false

/-- Bytes of the access. -/
def kindBytes : LdStKind → Nat
  | .strb | .ldrb | .ldrsbX | .ldrsbW => 1
  | .strh | .ldrh | .ldrshX | .ldrshW => 2
  | .strW | .ldrW | .ldrsw => 4
  | .strX | .ldrX => 8

/-- The register a load leaves, from the value read: extended to W or X by zeros or by the sign, a W
value then zero-extended (R23, R356). -/
def kindLoaded : (kind : LdStKind) → {w : Nat} → BitVec w → Word
  | .ldrsbX, _, v | .ldrshX, _, v | .ldrsw, _, v => v.signExtend 64
  | .ldrsbW, _, v | .ldrshW, _, v => (v.signExtend 32).setWidth 64
  | _, _, v => v.setWidth 64

/-- The single-register instruction of a kind and an addressing mode. -/
def singleOf (kind : LdStKind) (rn rt : RegNum) : AddrMode → Instr
  | .unsigned imm12 => unsignedOffsetOf kind imm12 rn rt
  | .unscaled imm9 => unscaledOf kind imm9 rn rt
  | .post imm9 => postIndexOf kind imm9 rn rt
  | .pre imm9 => preIndexOf kind imm9 rn rt
  | .register rm ext scaled => registerOffsetOf kind rm ext scaled rn rt

/-- The pair instruction of a width (`sf`: X), a direction and an addressing mode. -/
def pairOf (store sf : Bool) (rt2 rn rt : RegNum) : PairMode → Instr
  | .offset imm7 =>
    if store then if sf then .stpXOffset imm7 rt2 rn rt else .stpWOffset imm7 rt2 rn rt
    else if sf then .ldpXOffset imm7 rt2 rn rt else .ldpWOffset imm7 rt2 rn rt
  | .post imm7 =>
    if store then if sf then .stpXPostIndex imm7 rt2 rn rt else .stpWPostIndex imm7 rt2 rn rt
    else if sf then .ldpXPostIndex imm7 rt2 rn rt else .ldpWPostIndex imm7 rt2 rn rt
  | .pre imm7 =>
    if store then if sf then .stpXPreIndex imm7 rt2 rn rt else .stpWPreIndex imm7 rt2 rn rt
    else if sf then .ldpXPreIndex imm7 rt2 rn rt else .ldpWPreIndex imm7 rt2 rn rt

/-- The base register after a write-back, if any: what the mode gives, in stack-pointer mode (R351). -/
def State.WroteBack (s t : State) (rn : RegNum) (back : Option Word) : Prop :=
  (∀ v, back = some v → t.rsp 64 rn = v) ∧ (back = none ∨ rn ≠ 31#5 → t.sp = s.sp)

/-- No write-back, or one to a register that the access does not transfer (R358, U3). -/
def noOverlap (back : Option Word) (rn rt : RegNum) : Prop := back = none ∨ rn ≠ rt ∨ rn = 31#5

/-- The base may be used: SP only when 16-byte aligned (R353). -/
def State.baseOk (s : State) (rn : RegNum) : Prop := rn = 31#5 → s.sp.toNat % 16 = 0

/-- The access lies in one 16-byte line (R67). -/
def inLine (addr : Word) (size : Nat) : Prop := addr.toNat % 16 + size ≤ 16

/-- The size and the base register of the accesses that must lie in one 16-byte line (R67, D42). -/
def lineAccess : Instr → Option (AccessSize × RegNum)
  | .ldxr size rn _ | .ldaxr size rn _ | .ldar size rn _ | .stlr size rn _ | .ldapr size rn _ => some (size, rn)
  | .stxr size _ rn _ | .stlxr size _ rn _ => some (size, rn)
  | .cas size _ _ _ rn _ => some (size, rn)
  | .swp size _ _ _ rn _ | .ldadd size _ _ _ rn _ | .ldclr size _ _ _ rn _ | .ldeor size _ _ _ rn _
  | .ldset size _ _ _ rn _ | .ldsmax size _ _ _ rn _ | .ldsmin size _ _ _ rn _ | .ldumax size _ _ _ rn _
  | .ldumin size _ _ _ rn _ => some (size, rn)
  | _ => none

/-! ## Who may write what (R32) -/

/-- The instructions of R32's table that write flags, and HLT, whose service may. -/
def mayWriteFlags : Instr → Bool
  | .addsImmediate .. | .subsImmediate .. | .addsShiftedRegister .. | .subsShiftedRegister ..
  | .addsExtendedRegister .. | .subsExtendedRegister .. | .adcs .. | .sbcs .. => true
  | .andsShiftedRegister .. | .bicsShiftedRegister .. | .andsImmediate .. => true
  | .ccmnRegister .. | .ccmpRegister .. | .ccmnImmediate .. | .ccmpImmediate .. => true
  | .msrNzcv .. | .mrsRndr .. | .mrsRndrrs .. | .hlt .. => true
  | _ => false

/-- The instructions that write memory, and HLT. -/
def mayWriteMemory : Instr → Bool
  | .strbUnsignedOffset .. | .sturb .. | .strbPostIndex .. | .strbPreIndex .. | .strbRegisterOffset ..
  | .strhUnsignedOffset .. | .sturh .. | .strhPostIndex .. | .strhPreIndex .. | .strhRegisterOffset ..
  | .strWUnsignedOffset .. | .sturW .. | .strWPostIndex .. | .strWPreIndex .. | .strWRegisterOffset ..
  | .strXUnsignedOffset .. | .sturX .. | .strXPostIndex .. | .strXPreIndex .. | .strXRegisterOffset .. => true
  | .stpWOffset .. | .stpWPostIndex .. | .stpWPreIndex .. | .stpXOffset .. | .stpXPostIndex .. | .stpXPreIndex .. => true
  | .stxr .. | .stlxr .. | .stlr .. | .cas .. | .swp .. | .ldadd .. | .ldclr .. | .ldeor .. | .ldset .. => true
  | .ldsmax .. | .ldsmin .. | .ldumax .. | .ldumin .. | .hlt .. => true
  | _ => false

/-! ## Stops -/

/-- The PC a fault records (R452). -/
def Fault.pc : Fault → Word
  | .unallocated pc _ => pc
  | .unimplemented pc _ => pc
  | .udf pc _ => pc
  | .alignment pc _ => pc
  | .authenticationFailure pc _ => pc
  | .btiViolation pc _ => pc
  | .hostTrapAbort pc _ => pc
  | .address pc _ => pc
  | .pcAlignment pc => pc

/-- The PC a refusal records, where its reason has one (R452, R465). -/
def Refusal.pc? : Refusal → Option Word
  | .pointerAuthentication pc _ _ => some pc
  | .writebackOverlap pc _ => some pc
  | .loadPairSameRegister pc _ => some pc
  | .storeExclusiveOverlap pc _ => some pc
  | _ => none

/-- The command a refusal records (R453). -/
def Refusal.command? : Refusal → Option Command
  | .pointerAuthentication _ _ c => some c
  | .writebackOverlap _ c => some c
  | .loadPairSameRegister _ c => some c
  | .storeExclusiveOverlap _ c => some c
  | _ => none

/-- The command at PC: the instruction the word there decodes to, or else the word. -/
def State.commandAt (s : State) : Command :=
  match decode s.fetchWord with
  | .instr i => .instr i
  | .rejected _ => .word s.fetchWord

/-! ## Host services (R392) -/

/-- Entry `k` of the feature list behind the instruction at PC. -/
def State.listEntry (s : State) (k : Nat) : Nat :=
  (s.memRead (s.pc + BitVec.ofNat 64 (s.platform.featureList.offset + s.platform.featureList.entryBytes * k))
    s.platform.featureList.entryBytes).toNat

/-- The memory behind the instruction at PC holds the feature list `codes`: its entries, none of them the
sentinel 'None', then the sentinel, all inside the image and within the limit. -/
structure State.HoldsList (s : State) (codes : List Nat) : Prop where
  limit : codes.length < s.platform.featureList.limit
  entries : ∀ k, (h : k < codes.length) → codes[k] = s.listEntry k ∧ codes[k] ≠ s.platform.featureList.none
  sentinel : s.listEntry codes.length = s.platform.featureList.none
  valid : ∀ k ≤ codes.length,
    s.memValid (s.pc + BitVec.ofNat 64 (s.platform.featureList.offset + s.platform.featureList.entryBytes * k))
      s.platform.featureList.entryBytes = true

/-! ## Safe runs -/

/-- `n` steps from `s`, none of which stops. -/
def SafeFor : (n : Nat) → (s : State) → Prop
  | 0, _ => True
  | n + 1, s => ∃ t, step s = .next t ∧ SafeFor n t

end Sys2Proof.Machine
end

