-- ==== Sys2Proof/Certificates/Slice0/Obligations.lean ====
section
/-! DEFINITION. The statements: each formalises rules of spec/ that its docstring names. -/

open Sys2Proof Sys2Proof.Machine

/-! ## Reset and the invariant -/

/-- R46, for every machine R7 allows, and State.reset is one of them. -/
def Obligations.ResetGeneralRegisters : Prop :=
  (∀ p : Platform, p.wf = true →
    (∀ i < 30, (State.resetWith p).xReg i = 0x000000000BADBEEF#64) ∧ (State.resetWith p).xReg 30 = 0#64 ∧
    (State.resetWith p).sp = p.stackTop ∧ p.stackTop.toNat % 16 = 0) ∧
  State.reset = State.resetWith Platform.default ∧ Platform.default.wf = true

/-- R47, R48, R50, R51: the flags, FPCR, PC, V and P take the parameters; the hidden state is empty. R482: the
reset of a machine that exists leaves its memory image, feature set, VL and other parameters, and PC, which
is not set by reset (R48); a change of VL resets V and P and nothing else; R483: a run starts at the host's
entry. The values of the parameters in State.reset are choices of the spec (D11, D12) and of the model
(log 1); that State.reset stands at ENTRY is log 5; the empty memory, the empty stack of the host's snapshots
and the model's counter are the model's (logs 2, 3, 4). -/
def Obligations.ResetOtherState : Prop :=
  ∀ p : Platform, p.wf = true →
    let s := State.resetWith p
    s.nzcv.toBits = p.nzcvReset ∧ s.fpcr = p.fpcrReset ∧ s.pc = p.entry ∧
    (∀ i : RegNum, s.zReg i = Config.vregReset i.toNat &&& s.zMask) ∧
    (∀ i : BitVec 4, s.pReg i = Config.pregReset i.toNat &&& s.pMask) ∧
    s.localMonitor = none ∧ s.globalMonitor = none ∧ s.btype = .default ∧ s.btypeNext = .default ∧
    s.movprfx = false ∧ s.pcModified = false ∧ s.rndr = Config.rndrSeed ∧ s.status = .running ∧
    s.mem = [] ∧ s.features = p.features ∧ s.freeCount = 0 ∧ s.platform = p ∧
    (Simulator.resetWith p).machine = s ∧ (Simulator.resetWith p).snapshots = [] ∧
    ∀ (u : State) (vl : Nat) (entry : Word),
      (u.resetOf.mem = u.mem ∧ u.resetOf.features = u.features ∧ u.resetOf.platform = u.platform ∧
        u.resetOf.pc = u.pc ∧ u.resetOf.freeCount = u.freeCount) ∧
      (u.platform = p →
        { u.resetOf with pc := s.pc, mem := s.mem, features := s.features, freeCount := s.freeCount } = s) ∧
      ((u.withVl vl).platform = { u.platform with vl := vl } ∧
        (∀ i : RegNum, (u.withVl vl).zReg i = Config.vregReset i.toNat &&& (u.withVl vl).zMask) ∧
        (∀ i : BitVec 4, (u.withVl vl).pReg i = Config.pregReset i.toNat &&& (u.withVl vl).pMask) ∧
        { u.withVl vl with z := u.z, p := u.p, platform := u.platform } = u) ∧
      (u.startRun entry).pc = entry ∧ (u.startRun entry).status = .running ∧
        { u.startRun entry with pc := u.pc, status := u.status } = u

/-- The invariant holds right after reset; the reset of a machine, a legal change of VL and the start of a
run keep it. -/
def Obligations.ResetInvariant : Prop :=
  (∀ p : Platform, p.wf = true → (State.resetWith p).Inv) ∧ State.reset.Inv ∧
  ∀ s : State, s.Inv →
    s.resetOf.Inv ∧ (∀ vl, Platform.wf { s.platform with vl := vl } = true → (s.withVl vl).Inv) ∧
    ∀ entry, (s.startRun entry).Inv

/-- Every step keeps the invariant: canonical memory, registers within VL, next BType at Default. -/
def Obligations.StepKeepsInvariant : Prop :=
  ∀ s t : State, s.Inv → step s = .next t → t.Inv

/-- So does every step of a native command: no vector or predicate write leaves a bit above VL or VL/8. -/
def Obligations.NativeStepKeepsInvariant : Prop :=
  ∀ (c : NativeCmd) (s t : State), s.Inv → stepNative c s = .next t → t.Inv

/-! ## The step -/

/-- R320: where the bytes at PC decode to `i` and the BTI check passes, a step is exec of `i` with
`pc_modified` clear, then the advance of PC, BType and the latch. The second clause says the same of a
command the decoder hands over. -/
def Obligations.StepRunsDecoded : Prop :=
  ∀ s : State, s.status = .running → s.pc ≠ 0#64 → s.pc.toNat % 4 = 0 → s.memValid s.pc 4 = true →
    (∀ i : Instr, decode s.fetchWord = .instr i →
      (s.guardedPage s.pc = false ∨ s.btype = .default ∨ btiPermits i s.btype = true) →
      step s =
        match exec i { s with pcModified := false } with
        | .next t =>
          .next { t with
            pc := if t.pcModified then t.pc else t.pc + 4#64
            btype := t.btypeNext
            btypeNext := .default
            movprfx := false }
        | .fault f => .fault f
        | .refused r => .refused r) ∧
    (∀ c : NativeCmd, c.wellFormed = true → (s.guardedPage s.pc = false ∨ s.btype = .default) →
      stepNative c s =
        match execNative c { s with pcModified := false } with
        | .next t =>
          .next { t with
            pc := if t.pcModified then t.pc else t.pc + 4#64
            btype := t.btypeNext
            btypeNext := .default
            movprfx := isMovprfx c }
        | .fault f => .fault f
        | .refused r => .refused r)

/-- R320, R467: the checks before an instruction runs, in their order, and what each leaves. -/
def Obligations.StepChecksInOrder : Prop :=
  ∀ s : State,
    (s.status ≠ .running → step s = .refused .notRunning) ∧
    (s.status = .running → s.pc = 0#64 → step s = .next { s with status := .exited }) ∧
    (s.status = .running → s.pc ≠ 0#64 → s.pc.toNat % 4 ≠ 0 → step s = .fault (.pcAlignment s.pc)) ∧
    (s.status = .running → s.pc ≠ 0#64 → s.pc.toNat % 4 = 0 → s.memValid s.pc 4 = false →
      step s = .fault (.address s.pc s.pc)) ∧
    (s.status = .running → s.pc ≠ 0#64 → s.pc.toNat % 4 = 0 → s.memValid s.pc 4 = true →
      (decode s.fetchWord = .rejected .unallocated → step s = .fault (.unallocated s.pc s.fetchWord)) ∧
      (∀ r, decode s.fetchWord = .rejected r → r ≠ .unallocated → s.guardedPage s.pc = true →
        s.btype ≠ .default → step s = .fault (.btiViolation s.pc s.btype)) ∧
      (decode s.fetchWord = .rejected .unimplemented → s.guardedPage s.pc = false ∨ s.btype = .default →
        step s = .fault (.unimplemented s.pc (.word s.fetchWord))) ∧
      (∀ name, decode s.fetchWord = .rejected (.pointerAuthentication name) →
        s.guardedPage s.pc = false ∨ s.btype = .default →
        step s = .refused (.pointerAuthentication s.pc name (.word s.fetchWord))))

/-- R339: in a guarded page, under a BType other than Default, an instruction runs only if it is one the
table permits; everywhere else none is stopped. -/
def Obligations.BtiViolation : Prop :=
  ∀ (s : State) (i : Instr), s.status = .running → s.pc ≠ 0#64 → s.pc.toNat % 4 = 0 →
    s.memValid s.pc 4 = true → decode s.fetchWord = .instr i →
    let permitted :=
      i = .btiJc ∨ (i = .btiC ∧ s.btype ≠ .branchFromGuardedNotToIP) ∨
        (i = .btiJ ∧ s.btype ≠ .branchAndLink) ∨ ∃ imm16, i = .hlt imm16
    (s.guardedPage s.pc = true ∧ s.btype ≠ .default ∧ ¬permitted →
      step s = .fault (.btiViolation s.pc s.btype)) ∧
    (s.guardedPage s.pc = false ∨ s.btype = .default ∨ permitted →
      ∀ pc b, step s ≠ .fault (.btiViolation pc b))

/-- R452, R453, R465: a fault or a refusal records the PC of the instruction, and a refusal the command; the
machine a stop leaves differs from the one before in its status alone and has no next step. The same of a
native command. -/
def Obligations.FaultsRecordPc : Prop :=
  ∀ s : State, s.status = .running →
    let leaves (t : State) (why : Status) : Prop := t = { s with status := why } ∧ ∀ u, step t ≠ .next u
    (∀ f, step s = .fault f → f.pc = s.pc ∧ leaves (advance s) (.faulted f)) ∧
    (∀ r, step s = .refused r →
      r.pc? = some s.pc ∧ r.command? = some s.commandAt ∧ leaves (advance s) (.refused r)) ∧
    (∀ c f, stepNative c s = .fault f → f.pc = s.pc ∧ leaves (s.settle (stepNative c s)) (.faulted f)) ∧
    (∀ c r, stepNative c s = .refused r →
      r.pc? = some s.pc ∧ r.command? = some (.native c) ∧ leaves (s.settle (stepNative c s)) (.refused r))

/-- R49: only a running machine has a next step, and a machine that is not running stays as it is. -/
def Obligations.StoppedIsTerminal : Prop :=
  ∀ s : State,
    (∀ t, step s = .next t → s.status = .running) ∧
    (s.status ≠ .running → step s = .refused .notRunning ∧ ∀ n, advance^[n] s = s)

/-- R338: the BType that an instruction hands to the next one depends on its class and Rn alone; that of
BR also on whether it stands in a guarded page. -/
def Obligations.NextBType : Prop :=
  ∀ (s t : State) (i : Instr), s.btypeNext = .default → s.pc ≠ 0#64 → decode s.fetchWord = .instr i →
    step s = .next t →
    t.btypeNext = .default ∧
    t.btype =
      match i with
      | .br rn =>
        if rn = 16#5 ∨ rn = 17#5 ∨ s.guardedPage s.pc = false then .branchFromUnguardedOrToIP
        else .branchFromGuardedNotToIP
      | .blr _ => .branchAndLink
      | _ => .default

/-! ## Encoding -/

/-- Every well-formed instruction, with every operand, decodes from its own word. -/
def Obligations.DecodeEncode : Prop :=
  ∀ i : Instr, i.wellFormed = true → decode (encode i) = .instr i

/-- Every word that decodes is the word of its instruction: no bit of a word is ignored. -/
def Obligations.EncodeDecode : Prop :=
  ∀ (w : BitVec 32) (i : Instr), decode w = .instr i → encode i = w ∧ i.wellFormed = true

/-- Words of the spec's examples, one or two of each family. -/
def Obligations.DecodeWords : Prop :=
  decode 0x917FFC20#32 = .instr (.addImmediate true true 0xFFF#12 1#5 0#5) ∧
  decode 0xAB82FC20#32 = .instr (.addsShiftedRegister true .asr 2#5 63#6 1#5 0#5) ∧
  decode 0x6B22A43F#32 = .instr (.subsExtendedRegister false 2#5 .sxth 1#3 1#5 31#5) ∧
  decode 0xCAC22020#32 = .instr (.eorShiftedRegister true .ror 2#5 8#6 1#5 0#5) ∧
  decode 0x927CEC3F#32 = .instr (.andImmediate true true 60#6 59#6 1#5 31#5) ∧
  decode 0xF2F7DDE0#32 = .instr (.movk true 3#2 0xBEEF#16 0#5) ∧
  decode 0x7A5FA822#32 = .instr (.ccmpImmediate false 31#5 10#4 1#5 2#4) ∧
  decode 0x5A815420#32 = .instr (.csneg false 1#5 5#4 1#5 0#5) ∧
  decode 0x93780C20#32 = .instr (.sbfm true true 56#6 3#6 1#5 0#5) ∧
  decode 0x9B228C20#32 = .instr (.smsubl 2#5 3#5 1#5 0#5) ∧
  decode 0xB7FFFFE1#32 = .instr (.tbnz true 31#5 0x3FFF#14 1#5) ∧
  decode 0xD53B2420#32 = .instr (.mrsRndrrs 0#5) ∧
  decode 0xF81F0FE0#32 = .instr (.strXPreIndex 0x1F0#9 31#5 0#5) ∧
  decode 0xA8C17BFD#32 = .instr (.ldpXPostIndex 2#7 30#5 31#5 29#5) ∧
  decode 0x88A07C41#32 = .instr (.cas .w false 0#5 false 2#5 1#5)

/-! ## Registers -/

/-- R22 to R27: the four register accesses, at both widths, and what a W write leaves to read. That a W write
of SP clears its upper half is R27, which the spec itself infers from R23 and R26. -/
def Obligations.RegisterAccess : Prop :=
  ∀ (s : State) (sf : Bool) (i : RegNum) (v : BitVec (width sf)),
    s.rz (width sf) 31#5 = 0#(width sf) ∧ s.rsp (width sf) 31#5 = s.sp.setWidth (width sf) ∧
    (i ≠ 31#5 → s.rz (width sf) i = (s.xReg i.toNat).setWidth (width sf) ∧
      s.rsp (width sf) i = (s.xReg i.toNat).setWidth (width sf)) ∧
    s.OnlyRz (s.wrRz i v) i v ∧ s.OnlyRsp (s.wrRsp i v) i v ∧
    (s.wrRz 31#5 v).rz (width sf) 31#5 = 0#(width sf) ∧
    (i ≠ 31#5 → ∀ w : BitVec 32, (s.wrRz i w).rz 64 i = w.setWidth 64 &&& 0xFFFFFFFF#64) ∧
    (i ≠ 31#5 → ∀ x : Word, (s.wrRz i x).rz 64 i = x ∧ (s.wrRz i x).rz 32 i = x.setWidth 32)

/-! ## ALU primitives -/

/-- R131, R132: result and flags of AddWithCarry against integer arithmetic, and in R131's own terms. -/
def Obligations.AddWithCarryLaws : Prop :=
  ∀ (n : Nat) (l r : BitVec n) (c : Bool), 0 < n →
    let sum := addWithCarry n l r c
    sum.1 = sumOf n l r c.toNat ∧ sum.2 = sumFlags n l r c.toNat ∧
    sum.2.n = sum.1.getLsbD (n - 1) ∧ (sum.2.z = true ↔ sum.1 = 0#n) ∧
    (sum.2.c = true ↔ 2 ^ n - 1 - c.toNat < l.toNat ∨ 2 ^ n - 1 - c.toNat - l.toNat < r.toNat) ∧
    (sum.2.v = true ↔ l.getLsbD (n - 1) = r.getLsbD (n - 1) ∧ l.getLsbD (n - 1) ≠ sum.1.getLsbD (n - 1))

/-- R133 to R137: the four shifts as arithmetic, ROR bit by bit and with its inverse, the identity at
amount 0, and no result for an amount of `n` or more. -/
def Obligations.ShiftLaws : Prop :=
  ∀ (n : Nat) (v : BitVec n) (k : Nat), 0 < n →
    (∀ ty, k < n → shift? n v ty k = some (shift n v ty k)) ∧ (∀ ty, n ≤ k → shift? n v ty k = none) ∧
    (∀ ty, shift n v ty 0 = v) ∧
    (k < n →
      (shift n v .lsl k).toNat = v.toNat * 2 ^ k % 2 ^ n ∧
      (shift n v .lsr k).toNat = v.toNat / 2 ^ k ∧
      (shift n v .asr k).toInt = v.toInt / 2 ^ k ∧
      (∀ i < n, (shift n v .ror k).getLsbD i = v.getLsbD ((i + k) % n)) ∧
      (0 < k → shift n (shift n v .ror k) .ror (n - k) = v))

/-- R138: the extended operand as an integer, at both widths, and no result above a shift of 4. -/
def Obligations.ExtendLaws : Prop :=
  ∀ (sf : Bool) (v : BitVec (width sf)) (k : Nat),
    (∀ ty, 4 < k → extend? (width sf) v ty k = none) ∧
    (k ≤ 4 →
      (∀ ty, extend? (width sf) v ty k = some (extend (width sf) v ty k)) ∧
      (∀ e ∈ [(ExtendType.uxtb, 8), (.uxth, 16), (.uxtw, 32), (.uxtx, 64)],
        extend (width sf) v e.1 k = BitVec.ofNat (width sf) (v.toNat % 2 ^ (min e.2 (width sf)) * 2 ^ k)) ∧
      (∀ e ∈ [(ExtendType.sxtb, 8), (.sxth, 16), (.sxtw, 32), (.sxtx, 64)],
        extend (width sf) v e.1 k =
          BitVec.ofInt (width sf) ((v.setWidth (min e.2 (width sf))).toInt * 2 ^ k)))

/-- R254: the immediate shifts as bitfield moves. -/
def Obligations.BitfieldShifts : Prop :=
  ∀ (n : Nat) (v dst : BitVec n) (k : Nat), k < n →
    bitfield n v dst k (n - 1) true false = shift n v .lsr k ∧
    bitfield n v dst k (n - 1) true true = shift n v .asr k ∧
    (0 < k → bitfield n v dst (n - k) (n - 1 - k) true false = shift n v .lsl k)

/-- R140 to R143: CLZ, CLS, ReverseBits and ReverseBytes, bit by bit. -/
def Obligations.CountsAndReversals : Prop :=
  ∀ (n : Nat) (x : BitVec n),
    clz n 0#n = n ∧
    (x ≠ 0#n → clz n x < n ∧ x.getLsbD (n - 1 - clz n x) = true ∧
      ∀ j, n - 1 - clz n x < j → x.getLsbD j = false) ∧
    (1 < n → cls n x < n ∧ (∀ j, n - 1 - cls n x ≤ j → j < n → x.getLsbD j = x.msb) ∧
      (cls n x < n - 1 → x.getLsbD (n - 2 - cls n x) ≠ x.msb)) ∧
    (∀ i < n, (reverseBits n x).getLsbD i = x.getLsbD (n - 1 - i)) ∧
    (∀ block ∈ [16, 32, 64], ∀ c j b, block * c + block ≤ n → j < block / 8 → b < 8 →
      (reverseBytes n x block).getLsbD (block * c + 8 * (block / 8 - 1 - j) + b) =
        x.getLsbD (block * c + 8 * j + b))

/-- R145: the sixteen conditions. -/
def Obligations.ConditionTable : Prop :=
  ∀ f : Nzcv,
    conditionHolds 0b0000#4 f = f.z ∧ conditionHolds 0b0001#4 f = !f.z ∧
    conditionHolds 0b0010#4 f = f.c ∧ conditionHolds 0b0011#4 f = !f.c ∧
    conditionHolds 0b0100#4 f = f.n ∧ conditionHolds 0b0101#4 f = !f.n ∧
    conditionHolds 0b0110#4 f = f.v ∧ conditionHolds 0b0111#4 f = !f.v ∧
    conditionHolds 0b1000#4 f = (f.c && !f.z) ∧ conditionHolds 0b1001#4 f = (!f.c || f.z) ∧
    conditionHolds 0b1010#4 f = decide (f.n = f.v) ∧ conditionHolds 0b1011#4 f = decide (f.n ≠ f.v) ∧
    conditionHolds 0b1100#4 f = (!f.z && decide (f.n = f.v)) ∧
    conditionHolds 0b1101#4 f = (f.z || decide (f.n ≠ f.v)) ∧
    conditionHolds 0b1110#4 f = true ∧ conditionHolds 0b1111#4 f = true

/-! ## Add and subtract -/

/-- R173 to R176: ADD, ADDS, SUB, SUBS (immediate) complete with the sum or difference of Rn, read in
stack-pointer mode, and the immediate; the S forms write the flags and Rd in zero-register mode. -/
def Obligations.AddSubImmediate : Prop :=
  ∀ (s : State) (sf sh : Bool) (imm12 : BitVec 12) (rn rd : RegNum),
    let a := s.rsp (width sf) rn
    let b := BitVec.ofNat (width sf) (imm12.toNat * if sh then 4096 else 1)
    (∃ t, exec (.addImmediate sf sh imm12 rn rd) s = .next t ∧ s.OnlyRsp t rd (sumOf (width sf) a b 0)) ∧
    (∃ t, exec (.addsImmediate sf sh imm12 rn rd) s = .next t ∧
      s.RzAndFlags t rd (sumOf (width sf) a b 0) (sumFlags (width sf) a b 0)) ∧
    (∃ t, exec (.subImmediate sf sh imm12 rn rd) s = .next t ∧
      s.OnlyRsp t rd (differenceOf (width sf) a b 1)) ∧
    (∃ t, exec (.subsImmediate sf sh imm12 rn rd) s = .next t ∧
      s.RzAndFlags t rd (differenceOf (width sf) a b 1) (differenceFlags (width sf) a b 1))

/-- R177 to R180: the shifted-register forms, every register in zero-register mode. -/
def Obligations.AddSubShifted : Prop :=
  ∀ (s : State) (sf : Bool) (ty : ShiftType) (rm : RegNum) (imm6 : BitVec 6) (rn rd : RegNum),
    ty ≠ .ror → imm6.toNat < width sf →
    let a := s.rz (width sf) rn
    let b := shift (width sf) (s.rz (width sf) rm) ty imm6.toNat
    (∃ t, exec (.addShiftedRegister sf ty rm imm6 rn rd) s = .next t ∧
      s.OnlyRz t rd (sumOf (width sf) a b 0)) ∧
    (∃ t, exec (.addsShiftedRegister sf ty rm imm6 rn rd) s = .next t ∧
      s.RzAndFlags t rd (sumOf (width sf) a b 0) (sumFlags (width sf) a b 0)) ∧
    (∃ t, exec (.subShiftedRegister sf ty rm imm6 rn rd) s = .next t ∧
      s.OnlyRz t rd (differenceOf (width sf) a b 1)) ∧
    (∃ t, exec (.subsShiftedRegister sf ty rm imm6 rn rd) s = .next t ∧
      s.RzAndFlags t rd (differenceOf (width sf) a b 1) (differenceFlags (width sf) a b 1))

/-- R181 to R184: the extended-register forms; Rn, and Rd of the non-S forms, in stack-pointer mode. -/
def Obligations.AddSubExtended : Prop :=
  ∀ (s : State) (sf : Bool) (rm : RegNum) (ty : ExtendType) (imm3 : BitVec 3) (rn rd : RegNum),
    imm3.toNat ≤ 4 →
    let a := s.rsp (width sf) rn
    let b := extend (width sf) (s.rz (width sf) rm) ty imm3.toNat
    (∃ t, exec (.addExtendedRegister sf rm ty imm3 rn rd) s = .next t ∧
      s.OnlyRsp t rd (sumOf (width sf) a b 0)) ∧
    (∃ t, exec (.addsExtendedRegister sf rm ty imm3 rn rd) s = .next t ∧
      s.RzAndFlags t rd (sumOf (width sf) a b 0) (sumFlags (width sf) a b 0)) ∧
    (∃ t, exec (.subExtendedRegister sf rm ty imm3 rn rd) s = .next t ∧
      s.OnlyRsp t rd (differenceOf (width sf) a b 1)) ∧
    (∃ t, exec (.subsExtendedRegister sf rm ty imm3 rn rd) s = .next t ∧
      s.RzAndFlags t rd (differenceOf (width sf) a b 1) (differenceFlags (width sf) a b 1))

/-- R185 to R188: ADC, ADCS, SBC, SBCS, the carry in taken from C before the instruction. -/
def Obligations.AddSubCarry : Prop :=
  ∀ (s : State) (sf : Bool) (rm rn rd : RegNum),
    let a := s.rz (width sf) rn
    let b := s.rz (width sf) rm
    let c := s.nzcv.c.toNat
    (∃ t, exec (.adc sf rm rn rd) s = .next t ∧ s.OnlyRz t rd (sumOf (width sf) a b c)) ∧
    (∃ t, exec (.adcs sf rm rn rd) s = .next t ∧
      s.RzAndFlags t rd (sumOf (width sf) a b c) (sumFlags (width sf) a b c)) ∧
    (∃ t, exec (.sbc sf rm rn rd) s = .next t ∧ s.OnlyRz t rd (differenceOf (width sf) a b c)) ∧
    (∃ t, exec (.sbcs sf rm rn rd) s = .next t ∧
      s.RzAndFlags t rd (differenceOf (width sf) a b c) (differenceFlags (width sf) a b c))

/-! ## Logical and move wide -/

/-- R202 to R209: the logical shifted-register forms; ANDS and BICS write N and Z, and clear C and V. -/
def Obligations.LogicalShifted : Prop :=
  ∀ (s : State) (sf : Bool) (ty : ShiftType) (rm : RegNum) (imm6 : BitVec 6) (rn rd : RegNum),
    imm6.toNat < width sf →
    let a := s.rz (width sf) rn
    let b := shift (width sf) (s.rz (width sf) rm) ty imm6.toNat
    (∀ e ∈ [(Instr.andShiftedRegister sf ty rm imm6 rn rd, a &&& b),
        (.bicShiftedRegister sf ty rm imm6 rn rd, a &&& ~~~b), (.orrShiftedRegister sf ty rm imm6 rn rd, a ||| b),
        (.ornShiftedRegister sf ty rm imm6 rn rd, a ||| ~~~b), (.eorShiftedRegister sf ty rm imm6 rn rd, a ^^^ b),
        (.eonShiftedRegister sf ty rm imm6 rn rd, a ^^^ ~~~b)],
      ∃ t, exec e.1 s = .next t ∧ s.OnlyRz t rd e.2) ∧
    (∀ e ∈ [(Instr.andsShiftedRegister sf ty rm imm6 rn rd, a &&& b),
        (.bicsShiftedRegister sf ty rm imm6 rn rd, a &&& ~~~b)],
      ∃ t, exec e.1 s = .next t ∧ s.RzAndFlags t rd e.2 (flagsOf (width sf) e.2 false false))

/-- R210 to R213 and R116: the logical immediate forms, and the immediate as a repeated element of
rotated ones that is neither all zeros nor all ones; fields that give no immediate are unallocated. -/
def Obligations.LogicalImmediate : Prop :=
  ∀ (s : State) (sf nBit : Bool) (immr imms : BitVec 6) (rn rd : RegNum),
    let a := s.rz (width sf) rn
    (∀ imm : BitVec (width sf), decodeBitMasks (width sf) nBit imms immr = some imm →
      (∃ e ∈ [2, 4, 8, 16, 32, 64], e ≤ width sf ∧ (nBit = true ↔ e = 64) ∧ imms.toNat % e ≠ e - 1 ∧
        (e < 64 → imms.toNat / e = 64 / e - 2) ∧
        ∀ i < width sf, imm.getLsbD i = decide ((i % e + immr.toNat) % e ≤ imms.toNat % e)) ∧
      (∃ t, exec (.andImmediate sf nBit immr imms rn rd) s = .next t ∧ s.OnlyRsp t rd (a &&& imm)) ∧
      (∃ t, exec (.orrImmediate sf nBit immr imms rn rd) s = .next t ∧ s.OnlyRsp t rd (a ||| imm)) ∧
      (∃ t, exec (.eorImmediate sf nBit immr imms rn rd) s = .next t ∧ s.OnlyRsp t rd (a ^^^ imm)) ∧
      (∃ t, exec (.andsImmediate sf nBit immr imms rn rd) s = .next t ∧
        s.RzAndFlags t rd (a &&& imm) (flagsOf (width sf) (a &&& imm) false false))) ∧
    (decodeBitMasks (width sf) nBit imms immr = none →
      ∀ i ∈ [Instr.andImmediate sf nBit immr imms rn rd, .orrImmediate sf nBit immr imms rn rd,
          .eorImmediate sf nBit immr imms rn rd, .andsImmediate sf nBit immr imms rn rd],
        exec i s = .fault (.unallocated s.pc (encode i)))

/-- R214 to R216: MOVZ zeros the other halfwords, MOVK keeps them, MOVN complements. -/
def Obligations.MoveWide : Prop :=
  ∀ (s : State) (sf : Bool) (hw : BitVec 2) (imm16 : BitVec 16) (rd : RegNum), 16 * hw.toNat < width sf →
    let v := BitVec.ofNat (width sf) (imm16.toNat * 2 ^ (16 * hw.toNat))
    (∃ t, exec (.movz sf hw imm16 rd) s = .next t ∧ s.OnlyRz t rd v) ∧
    (∃ t, exec (.movn sf hw imm16 rd) s = .next t ∧ s.OnlyRz t rd (~~~v)) ∧
    (∃ t, ∃ k : BitVec (width sf), exec (.movk sf hw imm16 rd) s = .next t ∧ s.OnlyRz t rd k ∧
      ∀ i < width sf, k.getLsbD i =
        if 16 * hw.toNat ≤ i ∧ i < 16 * hw.toNat + 16 then imm16.getLsbD (i - 16 * hw.toNat)
        else (s.rz (width sf) rd).getLsbD i)

/-! ## Conditional compare and select -/

/-- R230 to R234: the flags of a compare when the condition holds, else the immediate; no register is
written. -/
def Obligations.ConditionalCompare : Prop :=
  ∀ (s : State) (sf : Bool) (rm imm5 : BitVec 5) (cond : Cond) (rn : RegNum) (nzcv : BitVec 4),
    let a := s.rz (width sf) rn
    let flags (f : Nzcv) : Nzcv :=
      if conditionHolds cond s.nzcv then f
      else { n := nzcv.getLsbD 3, z := nzcv.getLsbD 2, c := nzcv.getLsbD 1, v := nzcv.getLsbD 0 }
    (∃ t, exec (.ccmnRegister sf rm cond rn nzcv) s = .next t ∧
      s.OnlyFlags t (flags (sumFlags (width sf) a (s.rz (width sf) rm) 0))) ∧
    (∃ t, exec (.ccmpRegister sf rm cond rn nzcv) s = .next t ∧
      s.OnlyFlags t (flags (differenceFlags (width sf) a (s.rz (width sf) rm) 1))) ∧
    (∃ t, exec (.ccmnImmediate sf imm5 cond rn nzcv) s = .next t ∧
      s.OnlyFlags t (flags (sumFlags (width sf) a (BitVec.ofNat (width sf) imm5.toNat) 0))) ∧
    (∃ t, exec (.ccmpImmediate sf imm5 cond rn nzcv) s = .next t ∧
      s.OnlyFlags t (flags (differenceFlags (width sf) a (BitVec.ofNat (width sf) imm5.toNat) 1)))

/-- R235 to R239: Rn when the condition holds, else Rm, plus one, complemented or negated. -/
def Obligations.ConditionalSelect : Prop :=
  ∀ (s : State) (sf : Bool) (rm : RegNum) (cond : Cond) (rn rd : RegNum),
    let m := s.rz (width sf) rm
    let result (other : BitVec (width sf)) : BitVec (width sf) :=
      if conditionHolds cond s.nzcv then s.rz (width sf) rn else other
    (∃ t, exec (.csel sf rm cond rn rd) s = .next t ∧ s.OnlyRz t rd (result m)) ∧
    (∃ t, exec (.csinc sf rm cond rn rd) s = .next t ∧
      s.OnlyRz t rd (result (BitVec.ofNat (width sf) (m.toNat + 1)))) ∧
    (∃ t, exec (.csinv sf rm cond rn rd) s = .next t ∧ s.OnlyRz t rd (result (~~~m))) ∧
    (∃ t, exec (.csneg sf rm cond rn rd) s = .next t ∧
      s.OnlyRz t rd (result (BitVec.ofNat (width sf) (2 ^ width sf - m.toNat))))

/-! ## Bitfield and extract -/

/-- R139, R250 to R253, R255: the bitfield moves and EXTR, bit by bit. -/
def Obligations.BitfieldAndExtract : Prop :=
  ∀ (s : State) (sf : Bool) (rm : RegNum) (immr imms : BitVec 6) (rn rd : RegNum),
    immr.toNat < width sf → imms.toNat < width sf →
    let n := width sf
    let src := s.rz n rn
    let dst := s.rz n rd
    let field (i : Nat) (above below : Bool) : Bool :=
      if immr.toNat ≤ imms.toNat then
        if i ≤ imms.toNat - immr.toNat then src.getLsbD (i + immr.toNat) else above
      else if i < n - immr.toNat then below
      else if i ≤ n - immr.toNat + imms.toNat then src.getLsbD (i - (n - immr.toNat)) else above
    (∃ t, ∃ v : BitVec n, exec (.sbfm sf sf immr imms rn rd) s = .next t ∧ s.OnlyRz t rd v ∧
      ∀ i < n, v.getLsbD i = field i (src.getLsbD imms.toNat) false) ∧
    (∃ t, ∃ v : BitVec n, exec (.bfm sf sf immr imms rn rd) s = .next t ∧ s.OnlyRz t rd v ∧
      ∀ i < n, v.getLsbD i = field i (dst.getLsbD i) (dst.getLsbD i)) ∧
    (∃ t, ∃ v : BitVec n, exec (.ubfm sf sf immr imms rn rd) s = .next t ∧ s.OnlyRz t rd v ∧
      ∀ i < n, v.getLsbD i = field i false false) ∧
    (∃ t, ∃ v : BitVec n, exec (.extr sf sf rm imms rn rd) s = .next t ∧ s.OnlyRz t rd v ∧
      ∀ i < n, v.getLsbD i =
        if i + imms.toNat < n then (s.rz n rm).getLsbD (i + imms.toNat) else src.getLsbD (i + imms.toNat - n))

/-! ## Data processing, one to three sources -/

/-- R270 to R277: the one-source instructions complete with the reversal or count of Rn. -/
def Obligations.OneSource : Prop :=
  ∀ (s : State) (sf : Bool) (rn rd : RegNum),
    let x := s.rz (width sf) rn
    (∀ e ∈ [(Instr.rbit sf rn rd, reverseBits (width sf) x), (.rev16 sf rn rd, reverseBytes (width sf) x 16),
        (.clz sf rn rd, BitVec.ofNat (width sf) (clz (width sf) x)),
        (.cls sf rn rd, BitVec.ofNat (width sf) (cls (width sf) x))],
      ∃ t, exec e.1 s = .next t ∧ s.OnlyRz t rd e.2) ∧
    (∃ t, exec (.revW rn rd) s = .next t ∧ s.OnlyRz t rd (reverseBytes 32 (s.rz 32 rn) 32)) ∧
    (∃ t, exec (.rev32 rn rd) s = .next t ∧ s.OnlyRz t rd (reverseBytes 64 (s.rz 64 rn) 32)) ∧
    (∃ t, exec (.revX rn rd) s = .next t ∧ s.OnlyRz t rd (reverseBytes 64 (s.rz 64 rn) 64))

/-- R148, R281, R282: UDIV and SDIV complete for every divisor; by zero the quotient is 0, else it is
rounded toward zero, and INT_MIN by -1 is INT_MIN. -/
def Obligations.Division : Prop :=
  ∀ (s : State) (sf : Bool) (rm rn rd : RegNum),
    let a := s.rz (width sf) rn
    let b := s.rz (width sf) rm
    (∃ t, ∃ q : BitVec (width sf), exec (.udiv sf rm rn rd) s = .next t ∧ s.OnlyRz t rd q ∧
      (b.toNat = 0 → q = 0) ∧ (b.toNat ≠ 0 → q.toNat = a.toNat / b.toNat)) ∧
    (∃ t, ∃ q : BitVec (width sf), exec (.sdiv sf rm rn rd) s = .next t ∧ s.OnlyRz t rd q ∧
      (b.toInt = 0 → q = 0) ∧
      (b.toInt = -1 → a.toInt = -2 ^ (width sf - 1) → q = a) ∧
      (b.toInt ≠ 0 → ¬(b.toInt = -1 ∧ a.toInt = -2 ^ (width sf - 1)) → q.toInt = a.toInt.tdiv b.toInt))

/-- R283 to R287: the variable shifts complete with a shift by Rm modulo the width. -/
def Obligations.VariableShifts : Prop :=
  ∀ (s : State) (sf : Bool) (rm rn rd : RegNum),
    ∀ e ∈ [(Instr.lslv sf rm rn rd, ShiftType.lsl), (.lsrv sf rm rn rd, .lsr), (.asrv sf rm rn rd, .asr),
        (.rorv sf rm rn rd, .ror)],
      ∃ t, exec e.1 s = .next t ∧
        s.OnlyRz t rd
          (shift (width sf) (s.rz (width sf) rn) e.2 ((s.rz 64 rm &&& BitVec.ofNat 64 (width sf - 1)).toNat))

/-- R288 to R296: the CRC32 instructions complete with the checksum of the low bits of Rm, a W write; and
the two published check values (R146). -/
def Obligations.CrcChecksums : Prop :=
  (∀ (s : State) (rm rn rd : RegNum),
    let acc := s.rz 32 rn
    ∀ e ∈ [(Instr.crc32b rm rn rd, crc32 acc 8 (s.rz 8 rm) 0x04C11DB7#32),
        (.crc32h rm rn rd, crc32 acc 16 (s.rz 16 rm) 0x04C11DB7#32),
        (.crc32w rm rn rd, crc32 acc 32 (s.rz 32 rm) 0x04C11DB7#32),
        (.crc32x rm rn rd, crc32 acc 64 (s.rz 64 rm) 0x04C11DB7#32),
        (.crc32cb rm rn rd, crc32 acc 8 (s.rz 8 rm) 0x1EDC6F41#32),
        (.crc32ch rm rn rd, crc32 acc 16 (s.rz 16 rm) 0x1EDC6F41#32),
        (.crc32cw rm rn rd, crc32 acc 32 (s.rz 32 rm) 0x1EDC6F41#32),
        (.crc32cx rm rn rd, crc32 acc 64 (s.rz 64 rm) 0x1EDC6F41#32)],
      ∃ t, exec e.1 s = .next t ∧ s.OnlyRz t rd e.2) ∧
  (∀ e ∈ [(0x04C11DB7#32, 0xCBF43926#32), (0x1EDC6F41#32, 0xE3069283#32)],
    ~~~(([0x31#8, 0x32#8, 0x33#8, 0x34#8, 0x35#8, 0x36#8, 0x37#8, 0x38#8, 0x39#8] : List Byte).foldl
      (fun acc byte => crc32 acc 8 byte e.1) 0xFFFFFFFF#32) = e.2)

/-- R301 to R308, R149: the multiplies complete with the product as an integer. -/
def Obligations.Multiply : Prop :=
  ∀ (s : State) (sf : Bool) (rm ra rn rd : RegNum),
    (∃ t, exec (.madd sf rm ra rn rd) s = .next t ∧
      s.OnlyRz t rd (BitVec.ofNat (width sf)
        ((s.rz (width sf) ra).toNat + (s.rz (width sf) rn).toNat * (s.rz (width sf) rm).toNat))) ∧
    (∃ t, exec (.msub sf rm ra rn rd) s = .next t ∧
      s.OnlyRz t rd (BitVec.ofInt (width sf)
        (((s.rz (width sf) ra).toNat : Int) - (s.rz (width sf) rn).toNat * (s.rz (width sf) rm).toNat))) ∧
    (∃ t, exec (.smaddl rm ra rn rd) s = .next t ∧
      s.OnlyRz t rd (BitVec.ofInt 64 ((s.rz 64 ra).toInt + (s.rz 32 rn).toInt * (s.rz 32 rm).toInt))) ∧
    (∃ t, exec (.smsubl rm ra rn rd) s = .next t ∧
      s.OnlyRz t rd (BitVec.ofInt 64 ((s.rz 64 ra).toInt - (s.rz 32 rn).toInt * (s.rz 32 rm).toInt))) ∧
    (∃ t, exec (.umaddl rm ra rn rd) s = .next t ∧
      s.OnlyRz t rd (BitVec.ofNat 64 ((s.rz 64 ra).toNat + (s.rz 32 rn).toNat * (s.rz 32 rm).toNat))) ∧
    (∃ t, exec (.umsubl rm ra rn rd) s = .next t ∧
      s.OnlyRz t rd (BitVec.ofInt 64 (((s.rz 64 ra).toNat : Int) - (s.rz 32 rn).toNat * (s.rz 32 rm).toNat))) ∧
    (∃ t, ∃ h : Word, exec (.smulh rm ra rn rd) s = .next t ∧ s.OnlyRz t rd h ∧
      h.toInt = (s.rz 64 rn).toInt * (s.rz 64 rm).toInt / 2 ^ 64) ∧
    (∃ t, ∃ h : Word, exec (.umulh rm ra rn rd) s = .next t ∧ s.OnlyRz t rd h ∧
      h.toNat = (s.rz 64 rn).toNat * (s.rz 64 rm).toNat / 2 ^ 64)

/-! ## PC-relative addresses and branches -/

/-- R323, R324, R120: ADR adds a signed byte offset to PC, ADRP a signed page offset to PC's page. -/
def Obligations.PcRelative : Prop :=
  ∀ (s : State) (immlo : BitVec 2) (immhi : BitVec 19) (rd : RegNum),
    let imm : Int := immhi.toInt * 4 + immlo.toNat
    (∃ t, exec (.adr immlo immhi rd) s = .next t ∧ s.OnlyRz t rd (BitVec.ofInt 64 (s.pc.toNat + imm))) ∧
    (∃ t, exec (.adrp immlo immhi rd) s = .next t ∧
      s.OnlyRz t rd (BitVec.ofInt 64 ((s.pc.toNat - s.pc.toNat % 4096 : Nat) + imm * 4096)))

/-- R326 to R332: a direct branch taken goes to PC plus four times its signed offset; one not taken
changes nothing; BL writes X30. -/
def Obligations.DirectBranches : Prop :=
  ∀ (s : State) (sf : Bool) (imm26 : BitVec 26) (imm19 : BitVec 19) (imm14 : BitVec 14) (cond : Cond)
    (b40 : BitVec 5) (rt : RegNum),
    let target (k : Int) : Word := BitVec.ofInt 64 (s.pc.toNat + k * 4)
    let branchIf (i : Instr) (taken : Prop) (k : Int) : Prop :=
      (taken → ∃ t, exec i s = .next t ∧ s.Branched t (target k) ∧ s.SameRegs t ∧ t.btypeNext = s.btypeNext) ∧
      (¬taken → exec i s = .next s)
    let bit := (s.rz 64 rt).getLsbD (b40.toNat + if sf then 32 else 0)
    branchIf (.b imm26) True imm26.toInt ∧
    branchIf (.bCond imm19 cond) (conditionHolds cond s.nzcv = true) imm19.toInt ∧
    branchIf (.cbz sf imm19 rt) (s.rz (width sf) rt = 0#(width sf)) imm19.toInt ∧
    branchIf (.cbnz sf imm19 rt) (s.rz (width sf) rt ≠ 0#(width sf)) imm19.toInt ∧
    branchIf (.tbz sf b40 imm14 rt) (bit = false) imm14.toInt ∧
    branchIf (.tbnz sf b40 imm14 rt) (bit = true) imm14.toInt ∧
    (∃ t, exec (.bl imm26) s = .next t ∧ s.Branched t (target imm26.toInt) ∧
      s.WroteRz t 30#5 (s.pc + 4#64) ∧ t.btypeNext = s.btypeNext)

/-- R334 to R336, R338: BR, BLR and RET go to Xn as it was before; BLR writes X30. -/
def Obligations.RegisterBranches : Prop :=
  ∀ (s : State) (rn : RegNum),
    (∃ t, exec (.br rn) s = .next t ∧ s.Branched t (s.rz 64 rn) ∧ s.SameRegs t ∧
      t.btypeNext =
        if rn = 16#5 ∨ rn = 17#5 ∨ s.guardedPage s.pc = false then .branchFromUnguardedOrToIP
        else .branchFromGuardedNotToIP) ∧
    (∃ t, exec (.blr rn) s = .next t ∧ s.Branched t (s.rz 64 rn) ∧ s.WroteRz t 30#5 (s.pc + 4#64) ∧
      t.btypeNext = .branchAndLink) ∧
    (∃ t, exec (.ret rn) s = .next t ∧ s.Branched t (s.rz 64 rn) ∧ s.SameRegs t ∧ t.btypeNext = s.btypeNext)

/-! ## System -/

/-- R380 to R383: the moves of NZCV, FPCR, RNDR and RNDRRS. -/
def Obligations.SystemRegisterMoves : Prop :=
  ∀ (s : State) (rt : RegNum),
    let x := s.rz 64 rt
    (∃ t, ∃ v : Word, exec (.mrsNzcv rt) s = .next t ∧ s.OnlyRz t rt v ∧
      ∀ i < 64, v.getLsbD i =
        ((i == 31 && s.nzcv.n) || (i == 30 && s.nzcv.z) || (i == 29 && s.nzcv.c) || (i == 28 && s.nzcv.v))) ∧
    (∃ t, exec (.msrNzcv rt) s = .next t ∧
      s.OnlyFlags t { n := x.getLsbD 31, z := x.getLsbD 30, c := x.getLsbD 29, v := x.getLsbD 28 }) ∧
    (∃ t, exec (.mrsFpcr rt) s = .next t ∧ s.OnlyRz t rt (s.fpcr.setWidth 64)) ∧
    (exec (.msrFpcr rt) s = .next { s with fpcr := x.setWidth 32 }) ∧
    (∀ i ∈ [Instr.mrsRndr rt, .mrsRndrrs rt], ∃ t, exec i s = .next t ∧
      s.WroteRz t rt (Config.rndrNext s.rndr).1 ∧ t.rndr = (Config.rndrNext s.rndr).2 ∧
      t.nzcv = { n := false, z := false, c := false, v := false } ∧ s.SamePc t ∧ s.SameMemory t ∧
      { t with rndr := s.rndr, x := s.x, nzcv := s.nzcv } = s)

/-- R80, R385 to R389: hints and barriers change nothing, CLREX empties the local monitor alone, SYS
changes nothing unless it writes memory (which numbers do is PRESUMED, log 13). -/
def Obligations.NoEffect : Prop :=
  ∀ (s : State) (imm7 : BitVec 7) (crm : BitVec 4) (op1 : BitVec 3) (crn : BitVec 4) (op2 : BitVec 3) (rt : RegNum),
    (∀ i ∈ [Instr.nop, .esb, .csdb, .bti, .btiC, .btiJ, .btiJc, .dsb crm, .dmb crm, .isb crm],
      exec i s = .next s) ∧
    (imm7.toNat ∉ [7, 8, 10, 12, 14, 24, 25, 26, 27, 28, 29, 30, 31] → exec (.hint imm7) s = .next s) ∧
    exec (.clrex crm) s = .next { s with localMonitor := none } ∧
    (isMemoryWritingSys op1 crn crm op2 = false → exec (.sys op1 crn crm op2 rt) s = .next s)

/-- R385, R389, R390: the forms that always stop. UDF faults; the pointer-authentication hints are
refused; a SYS operation that writes memory is unimplemented (its numbers are PRESUMED, log 13). -/
def Obligations.StoppingForms : Prop :=
  ∀ (s : State) (imm16 : BitVec 16) (op1 : BitVec 3) (crn crm : BitVec 4) (op2 : BitVec 3) (rt : RegNum),
    exec (.udf imm16) s = .fault (.udf s.pc imm16) ∧
    (∀ k ∈ [7, 8, 10, 12, 14, 24, 25, 26, 27, 28, 29, 30, 31], ∃ name,
      exec (.hint (BitVec.ofNat 7 k)) s =
        .refused (.pointerAuthentication s.pc name (.instr (.hint (BitVec.ofNat 7 k))))) ∧
    (isMemoryWritingSys op1 crn crm op2 = true →
      exec (.sys op1 crn crm op2 rt) s =
        .fault (.unimplemented s.pc (.word (encode (.sys op1 crn crm op2 rt)))))

/-- R392: HLT by the service of its immediate. Without one, and for kUnreachable, it aborts; kTrace and kLog
change nothing; the feature services change the feature set by the list in their block, which ends at the
sentinel 'None'; all continue behind their parameter block.
The model's choices: that a block is whole words, its length (a parameter, for kSaveCPUFeatures and
kRestoreCPUFeatures too), the layout of a list, an Abort where there is none, the caller-saved registers
(PRESUMED), no check of a block that holds no list, and any answer at all to a service R392 does not name:
log 12. The feature set after a restore is free in the machine, since the stack of snapshots is no state of
the hardware (R52), and is what was saved last in the simulator around it, where that stack stands: log 4.
Memory in canonical form after kRuntimeCall: log 3. -/
def Obligations.HostTraps : Prop :=
  ∀ (s : State) (imm16 : BitVec 16),
    let service := (s.platform.hostServices.find? fun e => e.1 == imm16).map Prod.snd
    let l := s.platform.featureList
    let abort : Prop := exec (.hlt imm16) s = .fault (.hostTrapAbort s.pc imm16)
    let behind (t : State) (words : Nat) : State :=
      { t with pc := s.pc + 4#64 + BitVec.ofNat 64 (4 * words), pcModified := true }
    let next (t : State) (words : Nat) : Prop := exec (.hlt imm16) s = .next (behind t words)
    let hosts (saved : List (List Feature)) (t : State) (words : Nat) (saved' : List (List Feature)) : Prop :=
      Simulator.exec (.hlt imm16) { machine := s, snapshots := saved } =
        .next { machine := behind t words, snapshots := saved' }
    let configures (svc : HostService) (member : List Feature → Feature → Prop) : Prop :=
      service = some svc →
        (∀ codes, s.HoldsList codes → ∃ gs words, next { s with features := gs } words ∧
          (∀ f, f ∈ gs ↔ member (codes.map (featureOf l)) f) ∧
          (4 ≤ l.offset → l.offset + l.entryBytes * (codes.length + 1) ≤ 4 + 4 * words ∧
            4 * words < l.offset + l.entryBytes * (codes.length + 1))) ∧
        ((∀ codes, ¬s.HoldsList codes) → abort)
    (service = none ∨ service = some .unreachable → abort) ∧
    (∀ w, service = some (.trace w) ∨ service = some (.log w) → next s w) ∧
    (∀ w, service = some (.printf w) → ∃ t, next t w ∧ t.sp = s.sp ∧ t.mem = s.mem ∧ t.features = s.features ∧
      t.fpcr = s.fpcr ∧ (∀ j, 19 ≤ j → j < 30 → t.xReg j = s.xReg j) ∧
      (s.platform.wf = true → ∀ i : RegNum, 8 ≤ i.toNat → i.toNat < 16 →
        (t.zReg i).setWidth 64 = (s.zReg i).setWidth 64)) ∧
    (∀ w, service = some (.runtimeCall w) → ∃ t, next t w ∧ Memory.wf t.mem = true) ∧
    configures .setFeatures (fun fs f => f ∈ fs) ∧
    configures .enableFeatures (fun fs f => f ∈ s.features ∨ f ∈ fs) ∧
    configures .disableFeatures (fun fs f => f ∈ s.features ∧ f ∉ fs) ∧
    (∀ w, service = some (.saveFeatures w) → next s w ∧ ∀ saved, hosts saved s w (s.features :: saved)) ∧
    (∀ w, service = some (.restoreFeatures w) → ∃ gs,
      let t (fs : List Feature) : State := { s with features := fs, freeCount := s.freeCount + 1 }
      next (t gs) w ∧ (∀ fs rest, hosts (fs :: rest) (t fs) w rest) ∧ hosts [] (t gs) w []) ∧
    (service = some .unnamed →
      match openHostTrap imm16 s with
      | none => abort
      | some (t, w) => ∃ u, next u w ∧ u.x = t.x ∧ u.sp = t.sp ∧ u.nzcv = t.nzcv ∧ u.fpcr = t.fpcr ∧
        u.features = t.features ∧ Memory.wf u.mem = true ∧ u.platform = s.platform ∧ u.status = s.status)

/-! ## Loads and stores -/

/-- R350 to R358: the address and the write-back value of every addressing mode of a single register (loads
and stores alike), and every single-register load, in every mode: it completes where its base is usable and
its bytes exist, with the extended value, the write-back and nothing else. -/
def Obligations.SingleLoads : Prop :=
  (∀ (s : State) (rn rm : RegNum) (k : Nat) (imm12 : BitVec 12) (imm9 : BitVec 9) (ext : ExtendType) (scaled : Bool),
    let base := s.rsp 64 rn
    let offset := base + BitVec.ofInt 64 imm9.toInt
    s.modeAddress rn (2 ^ k) (.unsigned imm12) = (base + BitVec.ofNat 64 (imm12.toNat * 2 ^ k), none) ∧
    s.modeAddress rn (2 ^ k) (.unscaled imm9) = (offset, none) ∧
    s.modeAddress rn (2 ^ k) (.post imm9) = (base, some offset) ∧
    s.modeAddress rn (2 ^ k) (.pre imm9) = (offset, some offset) ∧
    s.modeAddress rn (2 ^ k) (.register rm ext scaled) =
      (base + extend 64 (s.rz 64 rm) ext (if scaled then k else 0), none)) ∧
  ∀ (s : State) (kind : LdStKind) (mode : AddrMode) (rn rt : RegNum),
    kindStores kind = false → mode.wellFormed = true → s.baseOk rn →
    let addr := (s.modeAddress rn (kindBytes kind) mode).1
    let back := (s.modeAddress rn (kindBytes kind) mode).2
    noOverlap back rn rt → s.memValid addr (kindBytes kind) = true →
    ∃ t, exec (singleOf kind rn rt mode) s = .next t ∧
      (rt ≠ 31#5 → t.xReg rt.toNat = kindLoaded kind (s.memRead addr (kindBytes kind))) ∧
      s.WroteBack t rn back ∧
      (∀ j, (rt = 31#5 ∨ j ≠ rt.toNat) → (back = none ∨ rn = 31#5 ∨ j ≠ rn.toNat) → t.xReg j = s.xReg j) ∧
      t.nzcv = s.nzcv ∧ s.SameButRegisters t

/-- R350 to R358, R79: every single-register store, in every addressing mode: the low bytes of Rt go to
the bytes of the access, every other byte reads as before, the local monitor is cleared. -/
def Obligations.SingleStores : Prop :=
  ∀ (s : State) (kind : LdStKind) (mode : AddrMode) (rn rt : RegNum),
    Memory.wf s.mem = true → kindStores kind = true → mode.wellFormed = true → s.baseOk rn →
    let addr := (s.modeAddress rn (kindBytes kind) mode).1
    let back := (s.modeAddress rn (kindBytes kind) mode).2
    noOverlap back rn rt → s.memValid addr (kindBytes kind) = true →
    ∃ t, exec (singleOf kind rn rt mode) s = .next t ∧
      s.Stored t addr (kindBytes kind) (s.rz 64 rt) ∧ t.localMonitor = none ∧
      t.globalMonitor = s.globalMonitor ∧ s.WroteBack t rn back ∧
      (∀ j, (back = none ∨ rn = 31#5 ∨ j ≠ rn.toNat) → t.xReg j = s.xReg j) ∧ s.SameButMemory t

/-- R359: the address and the write-back value of every addressing mode of a pair (loads and stores alike);
LDP loads two consecutive elements into two different registers. -/
def Obligations.PairLoads : Prop :=
  (∀ (s : State) (rn : RegNum) (size : Nat) (imm7 : BitVec 7),
    let base := s.rsp 64 rn
    let offset := base + BitVec.ofInt 64 (imm7.toInt * size)
    s.pairModeAddress rn size (.offset imm7) = (offset, none) ∧
    s.pairModeAddress rn size (.post imm7) = (base, some offset) ∧
    s.pairModeAddress rn size (.pre imm7) = (offset, some offset)) ∧
  ∀ (s : State) (sf : Bool) (mode : PairMode) (rt2 rn rt : RegNum),
    let size := if sf then 8 else 4
    let addr := (s.pairModeAddress rn size mode).1
    let back := (s.pairModeAddress rn size mode).2
    rt ≠ rt2 → s.baseOk rn → noOverlap back rn rt → noOverlap back rn rt2 →
    s.memValid addr size = true → s.memValid (addr + BitVec.ofNat 64 size) size = true →
    ∃ t, exec (pairOf false sf rt2 rn rt mode) s = .next t ∧
      (rt ≠ 31#5 → t.xReg rt.toNat = (s.memRead addr size).setWidth 64) ∧
      (rt2 ≠ 31#5 → t.xReg rt2.toNat = (s.memRead (addr + BitVec.ofNat 64 size) size).setWidth 64) ∧
      s.WroteBack t rn back ∧
      (∀ j, (rt = 31#5 ∨ j ≠ rt.toNat) → (rt2 = 31#5 ∨ j ≠ rt2.toNat) →
        (back = none ∨ rn = 31#5 ∨ j ≠ rn.toNat) → t.xReg j = s.xReg j) ∧
      t.nzcv = s.nzcv ∧ s.SameButRegisters t

/-- R359, R79: STP stores two registers, possibly the same, at consecutive elements. -/
def Obligations.PairStores : Prop :=
  ∀ (s : State) (sf : Bool) (mode : PairMode) (rt2 rn rt : RegNum),
    let size := if sf then 8 else 4
    let addr := (s.pairModeAddress rn size mode).1
    let second := addr + BitVec.ofNat 64 size
    let back := (s.pairModeAddress rn size mode).2
    Memory.wf s.mem = true → s.baseOk rn → noOverlap back rn rt → noOverlap back rn rt2 →
    s.memValid addr size = true → s.memValid second size = true →
    ∃ t, exec (pairOf true sf rt2 rn rt mode) s = .next t ∧
      (∀ k < size, t.byteAt (byteAddress addr k) = (s.rz 64 rt).extractLsb' (8 * k) 8) ∧
      (∀ k < size, t.byteAt (byteAddress second k) = (s.rz 64 rt2).extractLsb' (8 * k) 8) ∧
      (∀ a, (∀ k < size, a ≠ byteAddress addr k ∧ a ≠ byteAddress second k) → t.byteAt a = s.byteAt a) ∧
      t.localMonitor = none ∧ t.globalMonitor = s.globalMonitor ∧ s.WroteBack t rn back ∧
      (∀ j, (back = none ∨ rn = 31#5 ∨ j ≠ rn.toNat) → t.xReg j = s.xReg j) ∧ s.SameButMemory t

/-- R360: the literal loads read at PC plus four times the signed offset, whatever SP is; where the bytes
do not exist they fault. -/
def Obligations.LiteralLoads : Prop :=
  ∀ (s : State) (imm19 : BitVec 19) (rt : RegNum),
    let addr : Word := BitVec.ofInt 64 (s.pc.toNat + imm19.toInt * 4)
    (s.memValid addr 4 = true → ∃ t, exec (.ldrWLiteral imm19 rt) s = .next t ∧
      s.OnlyRz t rt ((s.memRead addr 4).setWidth 64)) ∧
    (s.memValid addr 8 = true → ∃ t, exec (.ldrXLiteral imm19 rt) s = .next t ∧ s.OnlyRz t rt (s.memRead addr 8)) ∧
    (s.memValid addr 4 = true → ∃ t, exec (.ldrswLiteral imm19 rt) s = .next t ∧
      s.OnlyRz t rt ((s.memRead addr 4).signExtend 64)) ∧
    (s.memValid addr 4 = false → exec (.ldrWLiteral imm19 rt) s = .fault (.address s.pc addr) ∧
      exec (.ldrswLiteral imm19 rt) s = .fault (.address s.pc addr)) ∧
    (s.memValid addr 8 = false → exec (.ldrXLiteral imm19 rt) s = .fault (.address s.pc addr))

/-- R77, R363: LDXR and LDAXR load, and mark both monitors with the interval of the access. -/
def Obligations.LoadExclusives : Prop :=
  ∀ (s : State) (size : AccessSize) (rn rt : RegNum),
    let addr := s.rsp 64 rn
    s.baseOk rn → inLine addr (accessBytes size) → s.memValid addr (accessBytes size) = true →
    ∀ i ∈ [Instr.ldxr size rn rt, .ldaxr size rn rt], ∃ t, exec i s = .next t ∧
      s.WroteRz t rt ((s.memRead addr (accessBytes size)).setWidth 64) ∧ t.nzcv = s.nzcv ∧
      t.localMonitor = some { addr := addr.toNat, size := accessBytes size } ∧
      t.globalMonitor = some { addr := addr.toNat, size := accessBytes size } ∧
      (∀ a, t.byteAt a = s.byteAt a) ∧ t.mem = s.mem ∧ s.SamePc t ∧ s.SameUnits t

/-- R78, R364: STXR and STLXR store, and give status 0, exactly when both monitors cover the access; else
they store nothing and give 1. Either way the local monitor is cleared and the global one kept. -/
def Obligations.StoreExclusives : Prop :=
  ∀ (s : State) (size : AccessSize) (rs rn rt : RegNum),
    let addr := s.rsp 64 rn
    let covered (m : Option Interval) : Prop :=
      ∃ v, m = some v ∧ v.addr ≤ addr.toNat ∧ addr.toNat + accessBytes size ≤ v.addr + v.size
    Memory.wf s.mem = true → rs ≠ rt → rs ≠ rn → s.baseOk rn → inLine addr (accessBytes size) →
    s.memValid addr (accessBytes size) = true →
    ∀ i ∈ [Instr.stxr size rs rn rt, .stlxr size rs rn rt], ∃ t, exec i s = .next t ∧
      (covered s.localMonitor ∧ covered s.globalMonitor →
        s.Stored t addr (accessBytes size) (s.rz 64 rt) ∧ s.WroteRz t rs 0#32) ∧
      (¬(covered s.localMonitor ∧ covered s.globalMonitor) →
        (∀ a, t.byteAt a = s.byteAt a) ∧ s.WroteRz t rs 1#32) ∧
      t.localMonitor = none ∧ t.globalMonitor = s.globalMonitor ∧ s.SameButMemory t

/-- R78's testable properties, LDXR and LDAXR, STXR and STLXR alike: a load-exclusive then a store-exclusive
of the same access succeeds; a second store-exclusive fails; after CLREX, or after any ordinary store or
store-release (log 10), it fails. -/
def Obligations.ExclusiveSequence : Prop :=
  ∀ (s t u v : State) (size : AccessSize) (rs rn rt rt2 : RegNum) (crm : BitVec 4),
    rs ≠ 31#5 → rs ≠ rt → rs ≠ rn → rt2 ≠ rn ∨ rn = 31#5 →
    ∀ load ∈ [Instr.ldxr size rn rt2, .ldaxr size rn rt2], exec load s = .next t →
    ∀ store ∈ [Instr.stxr size rs rn rt, .stlxr size rs rn rt],
    let failsAfter (i : Instr) : Prop := exec i t = .next u → exec store u = .next v → v.xReg rs.toNat = 1#64
    (exec store t = .next u → u.xReg rs.toNat = 0#64 ∧
      ∀ again ∈ [Instr.stxr size rs rn rt, .stlxr size rs rn rt],
        exec again u = .next v → v.xReg rs.toNat = 1#64 ∧ ∀ a, v.byteAt a = u.byteAt a) ∧
    failsAfter (.clrex crm) ∧
    (∀ (kind : LdStKind) (mode : AddrMode) (rn2 rt3 : RegNum), kindStores kind = true → failsAfter (singleOf kind rn2 rt3 mode)) ∧
    (∀ (sf : Bool) (mode : PairMode) (rt4 rn2 rt3 : RegNum), failsAfter (pairOf true sf rt4 rn2 rt3 mode)) ∧
    ∀ (size2 : AccessSize) (rn2 rt3 : RegNum), failsAfter (.stlr size2 rn2 rt3)

/-- R365, R370: LDAR and LDAPR load, STLR stores and clears the local monitor. -/
def Obligations.AcquireRelease : Prop :=
  ∀ (s : State) (size : AccessSize) (rn rt : RegNum),
    let addr := s.rsp 64 rn
    Memory.wf s.mem = true → s.baseOk rn → inLine addr (accessBytes size) →
    s.memValid addr (accessBytes size) = true →
    (∀ i ∈ [Instr.ldar size rn rt, .ldapr size rn rt], ∃ t, exec i s = .next t ∧
      s.OnlyRz t rt ((s.memRead addr (accessBytes size)).setWidth 64)) ∧
    (∃ t, exec (.stlr size rn rt) s = .next t ∧ s.Stored t addr (accessBytes size) (s.rz 64 rt) ∧
      t.localMonitor = none ∧ t.globalMonitor = s.globalMonitor ∧ s.SameRegs t ∧ s.SameButMemory t)

/-- R366: CAS stores exactly when memory holds Rs; Rs takes what memory held. -/
def Obligations.CompareAndSwap : Prop :=
  ∀ (s : State) (size : AccessSize) (acq rel : Bool) (rs rn rt : RegNum),
    let addr := s.rsp 64 rn
    let old := s.memRead addr (accessBytes size)
    Memory.wf s.mem = true → s.baseOk rn → inLine addr (accessBytes size) →
    s.memValid addr (accessBytes size) = true →
    ∃ t, exec (.cas size acq rs rel rn rt) s = .next t ∧ s.WroteRz t rs (old.setWidth 64) ∧
      (old = (s.rz 64 rs).setWidth (8 * accessBytes size) →
        s.Stored t addr (accessBytes size) (s.rz 64 rt) ∧ t.localMonitor = none) ∧
      (old ≠ (s.rz 64 rs).setWidth (8 * accessBytes size) →
        (∀ a, t.byteAt a = s.byteAt a) ∧ t.localMonitor = s.localMonitor) ∧
      t.globalMonitor = s.globalMonitor ∧ s.SameButMemory t

/-- R368, R369: SWP and the LD<op> family: memory takes the new value, Rt the old one. -/
def Obligations.AtomicUpdates : Prop :=
  ∀ (s : State) (size : AccessSize) (acq rel : Bool) (rs rn rt : RegNum),
    let addr := s.rsp 64 rn
    let old := s.memRead addr (accessBytes size)
    let v := (s.rz 64 rs).setWidth (8 * accessBytes size)
    Memory.wf s.mem = true → s.baseOk rn → inLine addr (accessBytes size) →
    s.memValid addr (accessBytes size) = true →
    ∀ e ∈ [(Instr.swp size acq rel rs rn rt, v), (.ldadd size acq rel rs rn rt, old + v),
        (.ldclr size acq rel rs rn rt, old &&& ~~~v), (.ldeor size acq rel rs rn rt, old ^^^ v),
        (.ldset size acq rel rs rn rt, old ||| v),
        (.ldsmax size acq rel rs rn rt, if old.toInt < v.toInt then v else old),
        (.ldsmin size acq rel rs rn rt, if v.toInt < old.toInt then v else old),
        (.ldumax size acq rel rs rn rt, if old.toNat < v.toNat then v else old),
        (.ldumin size acq rel rs rn rt, if v.toNat < old.toNat then v else old)],
      ∃ t, exec e.1 s = .next t ∧ s.Stored t addr (accessBytes size) e.2 ∧ s.WroteRz t rt (old.setWidth 64) ∧
        t.localMonitor = none ∧ t.globalMonitor = s.globalMonitor ∧ s.SameButMemory t

/-- R353, R354, R358, R359, R364, R467: where loads and stores stop, in the order of the checks. The
refusals of overlapping registers are the spec's U3 to U5. -/
def Obligations.LoadStoreStops : Prop :=
  ∀ s : State,
    (∀ (kind : LdStKind) (mode : AddrMode) (rn rt : RegNum), mode.wellFormed = true →
      let addr := (s.modeAddress rn (kindBytes kind) mode).1
      let back := (s.modeAddress rn (kindBytes kind) mode).2
      (¬noOverlap back rn rt → exec (singleOf kind rn rt mode) s =
        .refused (.writebackOverlap s.pc (.instr (singleOf kind rn rt mode)))) ∧
      (noOverlap back rn rt → ¬s.baseOk rn →
        exec (singleOf kind rn rt mode) s = .fault (.alignment s.pc s.sp)) ∧
      (noOverlap back rn rt → s.baseOk rn → s.memValid addr (kindBytes kind) = false →
        exec (singleOf kind rn rt mode) s = .fault (.address s.pc addr))) ∧
    (∀ (store sf : Bool) (mode : PairMode) (rt2 rn rt : RegNum),
      let size := if sf then 8 else 4
      let addr := (s.pairModeAddress rn size mode).1
      let back := (s.pairModeAddress rn size mode).2
      (store = false → rt = rt2 →
        exec (pairOf store sf rt2 rn rt mode) s =
          .refused (.loadPairSameRegister s.pc (.instr (pairOf store sf rt2 rn rt mode)))) ∧
      (store = true ∨ rt ≠ rt2 → ¬(noOverlap back rn rt ∧ noOverlap back rn rt2) →
        exec (pairOf store sf rt2 rn rt mode) s =
          .refused (.writebackOverlap s.pc (.instr (pairOf store sf rt2 rn rt mode)))) ∧
      (store = true ∨ rt ≠ rt2 → noOverlap back rn rt → noOverlap back rn rt2 → ¬s.baseOk rn →
        exec (pairOf store sf rt2 rn rt mode) s = .fault (.alignment s.pc s.sp)) ∧
      (store = true ∨ rt ≠ rt2 → noOverlap back rn rt → noOverlap back rn rt2 → s.baseOk rn →
        s.memValid addr size = false →
        exec (pairOf store sf rt2 rn rt mode) s = .fault (.address s.pc addr)) ∧
      (store = true ∨ rt ≠ rt2 → noOverlap back rn rt → noOverlap back rn rt2 → s.baseOk rn →
        s.memValid addr size = true → s.memValid (addr + BitVec.ofNat 64 size) size = false →
        exec (pairOf store sf rt2 rn rt mode) s = .fault (.address s.pc (addr + BitVec.ofNat 64 size)))) ∧
    (∀ (size : AccessSize) (rs rn rt : RegNum), rs = rt ∨ rs = rn →
      exec (.stxr size rs rn rt) s = .refused (.storeExclusiveOverlap s.pc (.instr (.stxr size rs rn rt))) ∧
      exec (.stlxr size rs rn rt) s = .refused (.storeExclusiveOverlap s.pc (.instr (.stlxr size rs rn rt)))) ∧
    (∀ (i : Instr) (size : AccessSize) (rn : RegNum), lineAccess i = some (size, rn) →
      (∀ size rs rn rt, i = .stxr size rs rn rt ∨ i = .stlxr size rs rn rt → rs ≠ rt ∧ rs ≠ rn) →
      let addr := s.rsp 64 rn
      (¬s.baseOk rn → exec i s = .fault (.alignment s.pc s.sp)) ∧
      (s.baseOk rn → ¬inLine addr (accessBytes size) → exec i s = .fault (.alignment s.pc addr)) ∧
      (s.baseOk rn → inLine addr (accessBytes size) → s.memValid addr (accessBytes size) = false →
        exec i s = .fault (.address s.pc addr)))

/-- R61 to R64: a value written is read back, byte `k` of it at `addr + k`; a write changes no other byte
and a read is made of the bytes it covers. That a write keeps the canonical form of the image is about the
model's own form (log 3, DESIGN CHOICE), no rule of the spec. -/
def Obligations.MemoryReadAfterWrite : Prop :=
  ∀ (s : State) (addr : Word) (n : Nat) (v : BitVec (8 * n)), Memory.wf s.mem = true →
    s.memValid addr n = true →
    (s.memWrite addr n v).memRead addr n = v ∧ s.Stored (s.memWrite addr n v) addr n v ∧
    (∀ k < n, (s.memRead addr n).extractLsb' (8 * k) 8 = s.byteAt (addr.toNat + k)) ∧
    (∀ k < n, byteAddress addr k = addr.toNat + k) ∧ Memory.wf (s.memWrite addr n v).mem = true

/-! ## The whole machine -/

/-- R32, R34, R36, R38, R39, R53: no instruction but those of R32's table writes a flag, none but the
stores writes a byte, none but MSR FPCR writes FPCR, none but RNDR and RNDRRS moves the generator, and none
touches V, P, the feature sets or the parameters; HLT is exempt from all but the last, for its service may
write any of these (R392, log 12). And R53: no other instruction's result depends on the feature set; R52: no
instruction's result, and no step's, depends on the host's snapshots, but for the feature set that HLT
restores from them (log 4). -/
def Obligations.WritesOnlyWhatIsListed : Prop :=
  (∀ (i : Instr) (s t : State), exec i s = .next t →
    (mayWriteFlags i = false → t.nzcv = s.nzcv) ∧
    (mayWriteMemory i = false → (∀ a, t.byteAt a = s.byteAt a) ∧ t.mem = s.mem) ∧
    ((∀ rt, i ≠ .msrFpcr rt) → (∀ imm16, i ≠ .hlt imm16) → t.fpcr = s.fpcr) ∧
    ((∀ rt, i ≠ .mrsRndr rt) → (∀ rt, i ≠ .mrsRndrrs rt) → (∀ imm16, i ≠ .hlt imm16) → t.rndr = s.rndr) ∧
    ((∀ imm16, i ≠ .hlt imm16) → t.z = s.z ∧ t.p = s.p ∧ t.features = s.features ∧
      t.freeCount = s.freeCount) ∧
    t.platform = s.platform ∧ t.status = s.status ∧ t.btype = s.btype ∧ t.movprfx = s.movprfx) ∧
  (∀ (i : Instr) (s : State) (features : List Feature), (∀ imm16, i ≠ .hlt imm16) →
    exec i { s with features := features } =
      match exec i s with
      | .next t => .next { t with features := features }
      | .fault f => .fault f
      | .refused r => .refused r) ∧
  ∀ (s : State) (saved : List (List Feature)),
    let agrees (r : Host.Outcome State Fault Refusal) (q : Host.Outcome Simulator Fault Refusal) (hlt : Prop) : Prop :=
      match r with
      | .next t => ∃ u, q = .next u ∧ { u.machine with features := t.features } = t ∧
          (¬hlt → u.machine = t ∧ u.snapshots = saved)
      | .fault f => q = .fault f
      | .refused f => q = .refused f
    (∀ i, agrees (exec i s) (Simulator.exec i { machine := s, snapshots := saved }) (∃ imm16, i = .hlt imm16)) ∧
    agrees (step s) (Simulator.step { machine := s, snapshots := saved })
      (∃ imm16, decode s.fetchWord = .instr (.hlt imm16))

/-! ## SVE predicates and FP compares -/

/-- R423, R428: the flags of PTEST, from the first and last active bit of the governing predicate, and
those of CTERMEQ and CTERMNE, which keep C and Z. Nothing else changes. -/
def Obligations.PredicateFlags : Prop :=
  ∀ (s : State) (pg pn : BitVec 4) (ne sf : Bool) (rm rn : RegNum),
    let bits := s.platform.vl / 8
    let act (k : Nat) : Prop := k < bits ∧ (s.pReg pg).getLsbD k = true
    let holds (k : Nat) : Prop := (s.pReg pn).getLsbD k = true
    let term : Prop := if ne then s.rz (width sf) rn ≠ s.rz (width sf) rm else s.rz (width sf) rn = s.rz (width sf) rm
    (∃ f : Nzcv, execNative (.ptest pg pn) s = .next { s with nzcv := f } ∧
      (f.n = true ↔ ∃ k, act k ∧ (∀ j < k, ¬act j) ∧ holds k) ∧
      (f.z = true ↔ ∀ k, act k → ¬holds k) ∧
      (f.c = true ↔ ∀ k, act k → (∀ j, k < j → ¬act j) → ¬holds k) ∧
      f.v = false) ∧
    (∃ f : Nzcv, execNative (.cterm ne sf rm rn) s = .next { s with nzcv := f } ∧
      f.c = s.nzcv.c ∧ f.z = s.nzcv.z ∧
      (term → f.n = true ∧ f.v = false) ∧ (¬term → f.n = false ∧ f.v = !s.nzcv.c))

/-- R426: once an element of a WHILE result is false every later one is; where `a + k` stays in range
element `k` is the comparison of every element up to it; the other bits of a lane's group are clear. -/
def Obligations.WhileLanes : Prop :=
  ∀ (s : State) (cond : WhileCond) (sf : Bool) (size : AccessSize) (rm rn : RegNum) (pd : BitVec 4),
    s.platform.wf = true →
    let value (r : RegNum) : Int :=
      match cond with
      | .lt | .le => (s.rz (width sf) r).toInt
      | .lo | .ls => (s.rz (width sf) r).toNat
    let top : Int :=
      match cond with
      | .lt | .le => 2 ^ (width sf - 1) - 1
      | .lo | .ls => 2 ^ width sf - 1
    let cmp (x : Int) : Prop :=
      match cond with
      | .lt | .lo => x < value rm
      | .le | .ls => x ≤ value rm
    let count := s.platform.vl / (8 * accessBytes size)
    ∃ t, execNative (.whileLanes cond sf size rm rn pd) s = .next t ∧
      let elem (k : Nat) : Bool := (t.pReg pd).getLsbD (accessBytes size * k)
      (∀ j k, j < k → k < count → elem j = false → elem k = false) ∧
      (∀ k < count, value rn + k ≤ top → (elem k = true ↔ ∀ j ≤ k, cmp (value rn + j))) ∧
      (∀ i, ¬(i % accessBytes size = 0 ∧ i / accessBytes size < count) → (t.pReg pd).getLsbD i = false) ∧
      t.nzcv = { n := elem 0, z := decide (∀ k < count, elem k = false), c := !elem (count - 1), v := false } ∧
      (∀ q, q ≠ pd → t.pReg q = s.pReg q) ∧ s.SameRegs t ∧ t.z = s.z ∧ t.mem = s.mem

/-- R406, R401: FCMP of two doubles, with FZ clear, by their sign-magnitude order: a NaN is unordered,
the two zeros are equal. Under an unsupported FPCR it is unimplemented. Which bits are a NaN, and that
doubles are ordered as sign and magnitude, is no rule of the spec but IEEE 754 (PRESUMED, log 17). -/
def Obligations.DoubleCompare : Prop :=
  ∀ (s : State) (signalling : Bool) (vm vn : RegNum),
    let a : Word := (s.zReg vn).setWidth 64
    let b : Word := (s.zReg vm).setWidth 64
    let nan (v : Word) : Prop := 0x7FF0000000000000 < (v &&& 0x7FFFFFFFFFFFFFFF#64).toNat
    let key (v : Word) : Int :=
      if v.getLsbD 63 then -((v &&& 0x7FFFFFFFFFFFFFFF#64).toNat : Int) else (v &&& 0x7FFFFFFFFFFFFFFF#64).toNat
    (s.fpcr &&& ~~~0x07C00000#32 = 0#32 → s.fpcr.getLsbD 24 = false →
      ∃ f : Nzcv, execNative (.fcmp signalling .double (some vm) vn) s = .next { s with nzcv := f } ∧
        (nan a ∨ nan b → f = { n := false, z := false, c := true, v := true }) ∧
        (¬nan a → ¬nan b →
          (key a = key b → f = { n := false, z := true, c := true, v := false }) ∧
          (key a < key b → f = { n := true, z := false, c := false, v := false }) ∧
          (key b < key a → f = { n := false, z := false, c := true, v := false }))) ∧
    (s.fpcr &&& ~~~0x07C00000#32 ≠ 0#32 →
      execNative (.fcmp signalling .double (some vm) vn) s =
        .fault (.unimplemented s.pc (.native (.fcmp signalling .double (some vm) vn))))
end

