-- ==== Sys2Proof/Laws/Bits.lean ====
section
/-! SUPPORT. Bit strings: the bits of a string built from a function, of shifts and rotations. -/

namespace Sys2Proof.Machine

theorem getLsbD_bitsOfFn (n : Nat) (f : Nat → Bool) (i : Nat) :
    (bitsOfFn n f).getLsbD i = (decide (i < n) && f i) := by
  induction n with
  | zero => simp [bitsOfFn]
  | succ n ih =>
    rw [bitsOfFn, BitVec.getLsbD_cons]
    by_cases h : i = n
    · simp [h]
    · have : (i < n + 1) ↔ i < n := by omega
      simp [h, ih, this]

theorem bitsOfFn_getLsbD {n : Nat} (v : BitVec n) : bitsOfFn n (fun i => v.getLsbD i) = v := by
  apply BitVec.eq_of_getLsbD_eq
  intro i hi
  rw [getLsbD_bitsOfFn, decide_eq_true hi, Bool.true_and]

theorem getLsbD_lowOnes (n k i : Nat) : (lowOnes n k).getLsbD i = (decide (i < n) && decide (i < k)) := by
  simp [lowOnes, getLsbD_bitsOfFn]

theorem getLsbD_rotr (n : Nat) (v : BitVec n) (k i : Nat) :
    (rotr n v k).getLsbD i = (decide (i < n) && v.getLsbD ((i + k) % n)) := by
  simp [rotr, getLsbD_bitsOfFn]

theorem rotr_zero (n : Nat) (v : BitVec n) : rotr n v 0 = v := by
  apply BitVec.eq_of_getLsbD_eq
  intro i hi
  rw [getLsbD_rotr, decide_eq_true hi, Bool.true_and, Nat.add_zero, Nat.mod_eq_of_lt hi]

theorem getLsbD_reverseBits (m : Nat) (x : BitVec m) (i : Nat) :
    (reverseBits m x).getLsbD i = (decide (i < m) && x.getLsbD (m - 1 - i)) := by
  simp [reverseBits, getLsbD_bitsOfFn]

theorem getLsbD_reverseBytes (n : Nat) (x : BitVec n) (block i : Nat) :
    (reverseBytes n x block).getLsbD i = (decide (i < n) && x.getLsbD (reverseBytesSource block i)) := by
  simp [reverseBytes, getLsbD_bitsOfFn]

/-- A shift by nothing changes nothing, whatever the type (R133). -/
theorem shift_zero (n : Nat) (v : BitVec n) (ty : ShiftType) : shift n v ty 0 = v := by
  cases ty <;> simp [shift, rotr_zero]

/-- The bits of a shift within its domain (R134 to R137). -/
theorem getLsbD_shift (n : Nat) (v : BitVec n) (ty : ShiftType) (k i : Nat) :
    (shift n v ty k).getLsbD i =
      (decide (i < n) &&
        match ty with
        | .lsl => decide (k ≤ i) && v.getLsbD (i - k)
        | .lsr => v.getLsbD (i + k)
        | .asr => if i + k < n then v.getLsbD (i + k) else v.msb
        | .ror => v.getLsbD ((i + k) % n)) := by
  cases ty with
  | lsl =>
    simp only [shift, BitVec.getLsbD_shiftLeft]
    by_cases h : i < k
    · simp [h, Nat.not_le.mpr h]
    · simp [h, Nat.not_lt.mp h]
  | lsr =>
    simp only [shift, BitVec.getLsbD_ushiftRight]
    rw [Nat.add_comm k i]
    by_cases h : i < n
    · simp [h]
    · simp [h, BitVec.getLsbD_of_ge v (i + k) (by omega)]
  | asr =>
    simp only [shift, BitVec.getLsbD_sshiftRight]
    rw [Nat.add_comm k i]
    by_cases h : i < n
    · have h' : ¬ n ≤ i := by omega
      simp [h, h']
    · have h' : n ≤ i := by omega
      simp [h, h']
  | ror => simp [shift, getLsbD_rotr]

end Sys2Proof.Machine
end

