-- ==== Sys2Proof/Laws/Encoding.lean ====
section
/-! SUPPORT. The encoder and the decoder at the level of formats: splitting the word of a format gives
the format back. With the per-instruction lemmas of Sys2Proof.Laws.PerInstr this is one half of the
round trip. -/

set_option linter.unusedSimpArgs false

namespace Sys2Proof.Laws

/-! ## Reading a field of a concatenation -/

theorem extractLsb'_high {m n : Nat} (x : BitVec m) (y : BitVec n) (i len : Nat) (h : n ≤ i) :
    (x ++ y).extractLsb' i len = x.extractLsb' (i - n) len := by
  apply BitVec.eq_of_getLsbD_eq; intro j hj
  rw [BitVec.getLsbD_extractLsb', BitVec.getLsbD_extractLsb', BitVec.getLsbD_append]
  have h1 : ¬ i + j < n := by omega
  have h2 : i + j - n = i - n + j := by omega
  simp [h1, h2]

theorem extractLsb'_low {m n : Nat} (x : BitVec m) (y : BitVec n) (i len : Nat) (h : i + len ≤ n) :
    (x ++ y).extractLsb' i len = y.extractLsb' i len := by
  apply BitVec.eq_of_getLsbD_eq; intro j hj
  rw [BitVec.getLsbD_extractLsb', BitVec.getLsbD_extractLsb', BitVec.getLsbD_append]
  have h1 : i + j < n := by omega
  simp [h1]

theorem extractLsb'_all {n : Nat} (x : BitVec n) : x.extractLsb' 0 n = x := by
  apply BitVec.eq_of_getLsbD_eq; intro j hj
  rw [BitVec.getLsbD_extractLsb']; simp [hj]

theorem getLsbD_high {m n : Nat} (x : BitVec m) (y : BitVec n) (i : Nat) (h : n ≤ i) :
    (x ++ y).getLsbD i = x.getLsbD (i - n) := by
  rw [BitVec.getLsbD_append]; simp [Nat.not_lt.mpr h]

theorem getLsbD_low {m n : Nat} (x : BitVec m) (y : BitVec n) (i : Nat) (h : i < n) :
    (x ++ y).getLsbD i = y.getLsbD i := by
  rw [BitVec.getLsbD_append]; simp [h]

theorem extractLsb'_cast {m n : Nat} (h : m = n) (x : BitVec m) (i len : Nat) :
    (x.cast h).extractLsb' i len = x.extractLsb' i len := by subst h; rfl

theorem getLsbD_cast' {m n : Nat} (h : m = n) (x : BitVec m) (i : Nat) :
    (x.cast h).getLsbD i = x.getLsbD i := by subst h; rfl

/-! ## One lemma per format -/

theorem ofWord_pcRel (op : BitVec 1) (immlo : BitVec 2) (immhi : BitVec 19) (rd : RegNum) :
    Format.ofWord (Format.toWord (.pcRel op immlo immhi rd)) = some (.pcRel op immlo immhi rd) := by
  rw [show Format.toWord (.pcRel op immlo immhi rd) =
    BitVec.cast (by decide) (op ++ immlo ++ 0b10000#5 ++ immhi ++ rd) from rfl]
  simp (disch := omega) only [Format.ofWord, Format.ofImmediateGroup, extractLsb'_cast, getLsbD_cast',
    extractLsb'_high, extractLsb'_low, extractLsb'_all, getLsbD_high, getLsbD_low, Nat.reduceSub, ↓reduceIte,
    BitVec.reduceExtractLsb', BitVec.reduceEq, BitVec.reduceGetLsb, Bool.and_true, Bool.and_false, Bool.not_true,
    Bool.not_false, Bool.true_and, Bool.false_and, Bool.false_eq_true, and_true, and_false, true_and, false_and,
    decide_true]

theorem ofWord_addSubImm (sf op setFlags sh : BitVec 1) (imm12 : BitVec 12) (rn rd : RegNum) :
    Format.ofWord (Format.toWord (.addSubImm sf op setFlags sh imm12 rn rd)) = some (.addSubImm sf op setFlags sh imm12 rn rd) := by
  rw [show Format.toWord (.addSubImm sf op setFlags sh imm12 rn rd) =
    BitVec.cast (by decide) (sf ++ op ++ setFlags ++ 0b100010#6 ++ sh ++ imm12 ++ rn ++ rd) from rfl]
  simp (disch := omega) only [Format.ofWord, Format.ofImmediateGroup, extractLsb'_cast, getLsbD_cast',
    extractLsb'_high, extractLsb'_low, extractLsb'_all, getLsbD_high, getLsbD_low, Nat.reduceSub, ↓reduceIte,
    BitVec.reduceExtractLsb', BitVec.reduceEq, BitVec.reduceGetLsb, Bool.and_true, Bool.and_false, Bool.not_true,
    Bool.not_false, Bool.true_and, Bool.false_and, Bool.false_eq_true, and_true, and_false, true_and, false_and,
    decide_true]

theorem ofWord_logicalImm (sf : BitVec 1) (opc : BitVec 2) (n : BitVec 1) (immr imms : BitVec 6) (rn rd : RegNum) :
    Format.ofWord (Format.toWord (.logicalImm sf opc n immr imms rn rd)) = some (.logicalImm sf opc n immr imms rn rd) := by
  rw [show Format.toWord (.logicalImm sf opc n immr imms rn rd) =
    BitVec.cast (by decide) (sf ++ opc ++ 0b100100#6 ++ n ++ immr ++ imms ++ rn ++ rd) from rfl]
  simp (disch := omega) only [Format.ofWord, Format.ofImmediateGroup, extractLsb'_cast, getLsbD_cast',
    extractLsb'_high, extractLsb'_low, extractLsb'_all, getLsbD_high, getLsbD_low, Nat.reduceSub, ↓reduceIte,
    BitVec.reduceExtractLsb', BitVec.reduceEq, BitVec.reduceGetLsb, Bool.and_true, Bool.and_false, Bool.not_true,
    Bool.not_false, Bool.true_and, Bool.false_and, Bool.false_eq_true, and_true, and_false, true_and, false_and,
    decide_true]

theorem ofWord_moveWide (sf : BitVec 1) (opc hw : BitVec 2) (imm16 : BitVec 16) (rd : RegNum) :
    Format.ofWord (Format.toWord (.moveWide sf opc hw imm16 rd)) = some (.moveWide sf opc hw imm16 rd) := by
  rw [show Format.toWord (.moveWide sf opc hw imm16 rd) =
    BitVec.cast (by decide) (sf ++ opc ++ 0b100101#6 ++ hw ++ imm16 ++ rd) from rfl]
  simp (disch := omega) only [Format.ofWord, Format.ofImmediateGroup, extractLsb'_cast, getLsbD_cast',
    extractLsb'_high, extractLsb'_low, extractLsb'_all, getLsbD_high, getLsbD_low, Nat.reduceSub, ↓reduceIte,
    BitVec.reduceExtractLsb', BitVec.reduceEq, BitVec.reduceGetLsb, Bool.and_true, Bool.and_false, Bool.not_true,
    Bool.not_false, Bool.true_and, Bool.false_and, Bool.false_eq_true, and_true, and_false, true_and, false_and,
    decide_true]

theorem ofWord_bitfield (sf : BitVec 1) (opc : BitVec 2) (n : BitVec 1) (immr imms : BitVec 6) (rn rd : RegNum) :
    Format.ofWord (Format.toWord (.bitfield sf opc n immr imms rn rd)) = some (.bitfield sf opc n immr imms rn rd) := by
  rw [show Format.toWord (.bitfield sf opc n immr imms rn rd) =
    BitVec.cast (by decide) (sf ++ opc ++ 0b100110#6 ++ n ++ immr ++ imms ++ rn ++ rd) from rfl]
  simp (disch := omega) only [Format.ofWord, Format.ofImmediateGroup, extractLsb'_cast, getLsbD_cast',
    extractLsb'_high, extractLsb'_low, extractLsb'_all, getLsbD_high, getLsbD_low, Nat.reduceSub, ↓reduceIte,
    BitVec.reduceExtractLsb', BitVec.reduceEq, BitVec.reduceGetLsb, Bool.and_true, Bool.and_false, Bool.not_true,
    Bool.not_false, Bool.true_and, Bool.false_and, Bool.false_eq_true, and_true, and_false, true_and, false_and,
    decide_true]

theorem ofWord_extract (sf : BitVec 1) (op21 : BitVec 2) (n o0 : BitVec 1) (rm : RegNum) (imms : BitVec 6) (rn rd : RegNum) :
    Format.ofWord (Format.toWord (.extract sf op21 n o0 rm imms rn rd)) = some (.extract sf op21 n o0 rm imms rn rd) := by
  rw [show Format.toWord (.extract sf op21 n o0 rm imms rn rd) =
    BitVec.cast (by decide) (sf ++ op21 ++ 0b100111#6 ++ n ++ o0 ++ rm ++ imms ++ rn ++ rd) from rfl]
  simp (disch := omega) only [Format.ofWord, Format.ofImmediateGroup, extractLsb'_cast, getLsbD_cast',
    extractLsb'_high, extractLsb'_low, extractLsb'_all, getLsbD_high, getLsbD_low, Nat.reduceSub, ↓reduceIte,
    BitVec.reduceExtractLsb', BitVec.reduceEq, BitVec.reduceGetLsb, Bool.and_true, Bool.and_false, Bool.not_true,
    Bool.not_false, Bool.true_and, Bool.false_and, Bool.false_eq_true, and_true, and_false, true_and, false_and,
    decide_true]

theorem ofWord_logicalShift (sf : BitVec 1) (opc shift : BitVec 2) (n : BitVec 1) (rm : RegNum) (imm6 : BitVec 6) (rn rd : RegNum) :
    Format.ofWord (Format.toWord (.logicalShift sf opc shift n rm imm6 rn rd)) = some (.logicalShift sf opc shift n rm imm6 rn rd) := by
  rw [show Format.toWord (.logicalShift sf opc shift n rm imm6 rn rd) =
    BitVec.cast (by decide) (sf ++ opc ++ 0b01010#5 ++ shift ++ n ++ rm ++ imm6 ++ rn ++ rd) from rfl]
  simp (disch := omega) only [Format.ofWord, Format.ofRegisterGroup, extractLsb'_cast, getLsbD_cast',
    extractLsb'_high, extractLsb'_low, extractLsb'_all, getLsbD_high, getLsbD_low, Nat.reduceSub, ↓reduceIte,
    BitVec.reduceExtractLsb', BitVec.reduceEq, BitVec.reduceGetLsb, Bool.and_true, Bool.and_false, Bool.not_true,
    Bool.not_false, Bool.true_and, Bool.false_and, Bool.false_eq_true, and_true, and_false, true_and, false_and,
    decide_true]

theorem ofWord_addSubShift (sf op setFlags : BitVec 1) (shift : BitVec 2) (rm : RegNum) (imm6 : BitVec 6) (rn rd : RegNum) :
    Format.ofWord (Format.toWord (.addSubShift sf op setFlags shift rm imm6 rn rd)) = some (.addSubShift sf op setFlags shift rm imm6 rn rd) := by
  rw [show Format.toWord (.addSubShift sf op setFlags shift rm imm6 rn rd) =
    BitVec.cast (by decide) (sf ++ op ++ setFlags ++ 0b01011#5 ++ shift ++ 0#1 ++ rm ++ imm6 ++ rn ++ rd) from rfl]
  simp (disch := omega) only [Format.ofWord, Format.ofRegisterGroup, extractLsb'_cast, getLsbD_cast',
    extractLsb'_high, extractLsb'_low, extractLsb'_all, getLsbD_high, getLsbD_low, Nat.reduceSub, ↓reduceIte,
    BitVec.reduceExtractLsb', BitVec.reduceEq, BitVec.reduceGetLsb, Bool.and_true, Bool.and_false, Bool.not_true,
    Bool.not_false, Bool.true_and, Bool.false_and, Bool.false_eq_true, and_true, and_false, true_and, false_and,
    decide_true]

theorem ofWord_addSubExt (sf op setFlags : BitVec 1) (opt : BitVec 2) (rm : RegNum) (option imm3 : BitVec 3) (rn rd : RegNum) :
    Format.ofWord (Format.toWord (.addSubExt sf op setFlags opt rm option imm3 rn rd)) = some (.addSubExt sf op setFlags opt rm option imm3 rn rd) := by
  rw [show Format.toWord (.addSubExt sf op setFlags opt rm option imm3 rn rd) =
    BitVec.cast (by decide) (sf ++ op ++ setFlags ++ 0b01011#5 ++ opt ++ 1#1 ++ rm ++ option ++ imm3 ++ rn ++ rd) from rfl]
  simp (disch := omega) only [Format.ofWord, Format.ofRegisterGroup, extractLsb'_cast, getLsbD_cast',
    extractLsb'_high, extractLsb'_low, extractLsb'_all, getLsbD_high, getLsbD_low, Nat.reduceSub, ↓reduceIte,
    BitVec.reduceExtractLsb', BitVec.reduceEq, BitVec.reduceGetLsb, Bool.and_true, Bool.and_false, Bool.not_true,
    Bool.not_false, Bool.true_and, Bool.false_and, Bool.false_eq_true, and_true, and_false, true_and, false_and,
    decide_true]

theorem ofWord_addSubCarry (sf op setFlags : BitVec 1) (rm : RegNum) (opcode2 : BitVec 6) (rn rd : RegNum) :
    Format.ofWord (Format.toWord (.addSubCarry sf op setFlags rm opcode2 rn rd)) = some (.addSubCarry sf op setFlags rm opcode2 rn rd) := by
  rw [show Format.toWord (.addSubCarry sf op setFlags rm opcode2 rn rd) =
    BitVec.cast (by decide) (sf ++ op ++ setFlags ++ 0b11010000#8 ++ rm ++ opcode2 ++ rn ++ rd) from rfl]
  simp (disch := omega) only [Format.ofWord, Format.ofRegisterGroup, extractLsb'_cast, getLsbD_cast',
    extractLsb'_high, extractLsb'_low, extractLsb'_all, getLsbD_high, getLsbD_low, Nat.reduceSub, ↓reduceIte,
    BitVec.reduceExtractLsb', BitVec.reduceEq, BitVec.reduceGetLsb, Bool.and_true, Bool.and_false, Bool.not_true,
    Bool.not_false, Bool.true_and, Bool.false_and, Bool.false_eq_true, and_true, and_false, true_and, false_and,
    decide_true]

theorem ofWord_condCmp (sf op setFlags : BitVec 1) (rmImm5 : BitVec 5) (cond : Cond) (i o2 : BitVec 1) (rn : RegNum) (o3 : BitVec 1) (nzcv : BitVec 4) :
    Format.ofWord (Format.toWord (.condCmp sf op setFlags rmImm5 cond i o2 rn o3 nzcv)) = some (.condCmp sf op setFlags rmImm5 cond i o2 rn o3 nzcv) := by
  rw [show Format.toWord (.condCmp sf op setFlags rmImm5 cond i o2 rn o3 nzcv) =
    BitVec.cast (by decide) (sf ++ op ++ setFlags ++ 0b11010010#8 ++ rmImm5 ++ cond ++ i ++ o2 ++ rn ++ o3 ++ nzcv) from rfl]
  simp (disch := omega) only [Format.ofWord, Format.ofRegisterGroup, extractLsb'_cast, getLsbD_cast',
    extractLsb'_high, extractLsb'_low, extractLsb'_all, getLsbD_high, getLsbD_low, Nat.reduceSub, ↓reduceIte,
    BitVec.reduceExtractLsb', BitVec.reduceEq, BitVec.reduceGetLsb, Bool.and_true, Bool.and_false, Bool.not_true,
    Bool.not_false, Bool.true_and, Bool.false_and, Bool.false_eq_true, and_true, and_false, true_and, false_and,
    decide_true]

theorem ofWord_condSel (sf op setFlags : BitVec 1) (rm : RegNum) (cond : Cond) (op2 : BitVec 2) (rn rd : RegNum) :
    Format.ofWord (Format.toWord (.condSel sf op setFlags rm cond op2 rn rd)) = some (.condSel sf op setFlags rm cond op2 rn rd) := by
  rw [show Format.toWord (.condSel sf op setFlags rm cond op2 rn rd) =
    BitVec.cast (by decide) (sf ++ op ++ setFlags ++ 0b11010100#8 ++ rm ++ cond ++ op2 ++ rn ++ rd) from rfl]
  simp (disch := omega) only [Format.ofWord, Format.ofRegisterGroup, extractLsb'_cast, getLsbD_cast',
    extractLsb'_high, extractLsb'_low, extractLsb'_all, getLsbD_high, getLsbD_low, Nat.reduceSub, ↓reduceIte,
    BitVec.reduceExtractLsb', BitVec.reduceEq, BitVec.reduceGetLsb, Bool.and_true, Bool.and_false, Bool.not_true,
    Bool.not_false, Bool.true_and, Bool.false_and, Bool.false_eq_true, and_true, and_false, true_and, false_and,
    decide_true]

theorem ofWord_dp1 (sf : BitVec 1) (opcode2 : BitVec 5) (opcode : BitVec 6) (rn rd : RegNum) :
    Format.ofWord (Format.toWord (.dp1 sf opcode2 opcode rn rd)) = some (.dp1 sf opcode2 opcode rn rd) := by
  rw [show Format.toWord (.dp1 sf opcode2 opcode rn rd) =
    BitVec.cast (by decide) (sf ++ 0b1011010110#10 ++ opcode2 ++ opcode ++ rn ++ rd) from rfl]
  simp (disch := omega) only [Format.ofWord, Format.ofRegisterGroup, extractLsb'_cast, getLsbD_cast',
    extractLsb'_high, extractLsb'_low, extractLsb'_all, getLsbD_high, getLsbD_low, Nat.reduceSub, ↓reduceIte,
    BitVec.reduceExtractLsb', BitVec.reduceEq, BitVec.reduceGetLsb, Bool.and_true, Bool.and_false, Bool.not_true,
    Bool.not_false, Bool.true_and, Bool.false_and, Bool.false_eq_true, and_true, and_false, true_and, false_and,
    decide_true]

theorem ofWord_dp2 (sf : BitVec 1) (rm : RegNum) (opcode : BitVec 6) (rn rd : RegNum) :
    Format.ofWord (Format.toWord (.dp2 sf rm opcode rn rd)) = some (.dp2 sf rm opcode rn rd) := by
  rw [show Format.toWord (.dp2 sf rm opcode rn rd) =
    BitVec.cast (by decide) (sf ++ 0b0011010110#10 ++ rm ++ opcode ++ rn ++ rd) from rfl]
  simp (disch := omega) only [Format.ofWord, Format.ofRegisterGroup, extractLsb'_cast, getLsbD_cast',
    extractLsb'_high, extractLsb'_low, extractLsb'_all, getLsbD_high, getLsbD_low, Nat.reduceSub, ↓reduceIte,
    BitVec.reduceExtractLsb', BitVec.reduceEq, BitVec.reduceGetLsb, Bool.and_true, Bool.and_false, Bool.not_true,
    Bool.not_false, Bool.true_and, Bool.false_and, Bool.false_eq_true, and_true, and_false, true_and, false_and,
    decide_true]

theorem ofWord_dp3 (sf : BitVec 1) (op54 : BitVec 2) (op31 : BitVec 3) (rm : RegNum) (o0 : BitVec 1) (ra rn rd : RegNum) :
    Format.ofWord (Format.toWord (.dp3 sf op54 op31 rm o0 ra rn rd)) = some (.dp3 sf op54 op31 rm o0 ra rn rd) := by
  rw [show Format.toWord (.dp3 sf op54 op31 rm o0 ra rn rd) =
    BitVec.cast (by decide) (sf ++ op54 ++ 0b11011#5 ++ op31 ++ rm ++ o0 ++ ra ++ rn ++ rd) from rfl]
  simp (disch := omega) only [Format.ofWord, Format.ofRegisterGroup, extractLsb'_cast, getLsbD_cast',
    extractLsb'_high, extractLsb'_low, extractLsb'_all, getLsbD_high, getLsbD_low, Nat.reduceSub, ↓reduceIte,
    BitVec.reduceExtractLsb', BitVec.reduceEq, BitVec.reduceGetLsb, Bool.and_true, Bool.and_false, Bool.not_true,
    Bool.not_false, Bool.true_and, Bool.false_and, Bool.false_eq_true, and_true, and_false, true_and, false_and,
    decide_true]

theorem ofWord_branchImm (op : BitVec 1) (imm26 : BitVec 26) :
    Format.ofWord (Format.toWord (.branchImm op imm26)) = some (.branchImm op imm26) := by
  rw [show Format.toWord (.branchImm op imm26) =
    BitVec.cast (by decide) (op ++ 0b00101#5 ++ imm26) from rfl]
  simp (disch := omega) only [Format.ofWord, Format.ofBranchGroup, extractLsb'_cast, getLsbD_cast',
    extractLsb'_high, extractLsb'_low, extractLsb'_all, getLsbD_high, getLsbD_low, Nat.reduceSub, ↓reduceIte,
    BitVec.reduceExtractLsb', BitVec.reduceEq, BitVec.reduceGetLsb, Bool.and_true, Bool.and_false, Bool.not_true,
    Bool.not_false, Bool.true_and, Bool.false_and, Bool.false_eq_true, and_true, and_false, true_and, false_and,
    decide_true]

theorem ofWord_compareBranch (sf op : BitVec 1) (imm19 : BitVec 19) (rt : RegNum) :
    Format.ofWord (Format.toWord (.compareBranch sf op imm19 rt)) = some (.compareBranch sf op imm19 rt) := by
  rw [show Format.toWord (.compareBranch sf op imm19 rt) =
    BitVec.cast (by decide) (sf ++ 0b011010#6 ++ op ++ imm19 ++ rt) from rfl]
  simp (disch := omega) only [Format.ofWord, Format.ofBranchGroup, extractLsb'_cast, getLsbD_cast',
    extractLsb'_high, extractLsb'_low, extractLsb'_all, getLsbD_high, getLsbD_low, Nat.reduceSub, ↓reduceIte,
    BitVec.reduceExtractLsb', BitVec.reduceEq, BitVec.reduceGetLsb, Bool.and_true, Bool.and_false, Bool.not_true,
    Bool.not_false, Bool.true_and, Bool.false_and, Bool.false_eq_true, and_true, and_false, true_and, false_and,
    decide_true]

theorem ofWord_testBranch (b5 op : BitVec 1) (b40 : BitVec 5) (imm14 : BitVec 14) (rt : RegNum) :
    Format.ofWord (Format.toWord (.testBranch b5 op b40 imm14 rt)) = some (.testBranch b5 op b40 imm14 rt) := by
  rw [show Format.toWord (.testBranch b5 op b40 imm14 rt) =
    BitVec.cast (by decide) (b5 ++ 0b011011#6 ++ op ++ b40 ++ imm14 ++ rt) from rfl]
  simp (disch := omega) only [Format.ofWord, Format.ofBranchGroup, extractLsb'_cast, getLsbD_cast',
    extractLsb'_high, extractLsb'_low, extractLsb'_all, getLsbD_high, getLsbD_low, Nat.reduceSub, ↓reduceIte,
    BitVec.reduceExtractLsb', BitVec.reduceEq, BitVec.reduceGetLsb, Bool.and_true, Bool.and_false, Bool.not_true,
    Bool.not_false, Bool.true_and, Bool.false_and, Bool.false_eq_true, and_true, and_false, true_and, false_and,
    decide_true]

theorem ofWord_condBranch (o1 : BitVec 1) (imm19 : BitVec 19) (o0 : BitVec 1) (cond : Cond) :
    Format.ofWord (Format.toWord (.condBranch o1 imm19 o0 cond)) = some (.condBranch o1 imm19 o0 cond) := by
  rw [show Format.toWord (.condBranch o1 imm19 o0 cond) =
    BitVec.cast (by decide) (0b0101010#7 ++ o1 ++ imm19 ++ o0 ++ cond) from rfl]
  simp (disch := omega) only [Format.ofWord, Format.ofBranchGroup, extractLsb'_cast, getLsbD_cast',
    extractLsb'_high, extractLsb'_low, extractLsb'_all, getLsbD_high, getLsbD_low, Nat.reduceSub, ↓reduceIte,
    BitVec.reduceExtractLsb', BitVec.reduceEq, BitVec.reduceGetLsb, Bool.and_true, Bool.and_false, Bool.not_true,
    Bool.not_false, Bool.true_and, Bool.false_and, Bool.false_eq_true, and_true, and_false, true_and, false_and,
    decide_true]

theorem ofWord_branchReg (opc : BitVec 4) (op2 : BitVec 5) (op3 : BitVec 6) (rn : RegNum) (op4 : BitVec 5) :
    Format.ofWord (Format.toWord (.branchReg opc op2 op3 rn op4)) = some (.branchReg opc op2 op3 rn op4) := by
  rw [show Format.toWord (.branchReg opc op2 op3 rn op4) =
    BitVec.cast (by decide) (0b1101011#7 ++ opc ++ op2 ++ op3 ++ rn ++ op4) from rfl]
  simp (disch := omega) only [Format.ofWord, Format.ofBranchGroup, extractLsb'_cast, getLsbD_cast',
    extractLsb'_high, extractLsb'_low, extractLsb'_all, getLsbD_high, getLsbD_low, Nat.reduceSub, ↓reduceIte,
    BitVec.reduceExtractLsb', BitVec.reduceEq, BitVec.reduceGetLsb, Bool.and_true, Bool.and_false, Bool.not_true,
    Bool.not_false, Bool.true_and, Bool.false_and, Bool.false_eq_true, and_true, and_false, true_and, false_and,
    decide_true]

theorem ofWord_exception (opc : BitVec 3) (imm16 : BitVec 16) (ll : BitVec 5) :
    Format.ofWord (Format.toWord (.exception opc imm16 ll)) = some (.exception opc imm16 ll) := by
  rw [show Format.toWord (.exception opc imm16 ll) =
    BitVec.cast (by decide) (0b11010100#8 ++ opc ++ imm16 ++ ll) from rfl]
  simp (disch := omega) only [Format.ofWord, Format.ofBranchGroup, extractLsb'_cast, getLsbD_cast',
    extractLsb'_high, extractLsb'_low, extractLsb'_all, getLsbD_high, getLsbD_low, Nat.reduceSub, ↓reduceIte,
    BitVec.reduceExtractLsb', BitVec.reduceEq, BitVec.reduceGetLsb, Bool.and_true, Bool.and_false, Bool.not_true,
    Bool.not_false, Bool.true_and, Bool.false_and, Bool.false_eq_true, and_true, and_false, true_and, false_and,
    decide_true]

theorem ofWord_sysRegMove (l : BitVec 1) (sysreg : BitVec 15) (rt : RegNum) :
    Format.ofWord (Format.toWord (.sysRegMove l sysreg rt)) = some (.sysRegMove l sysreg rt) := by
  rw [show Format.toWord (.sysRegMove l sysreg rt) =
    BitVec.cast (by decide) (0b1101010100#10 ++ l ++ 1#1 ++ sysreg ++ rt) from rfl]
  simp (disch := omega) only [Format.ofWord, Format.ofBranchGroup, extractLsb'_cast, getLsbD_cast',
    extractLsb'_high, extractLsb'_low, extractLsb'_all, getLsbD_high, getLsbD_low, Nat.reduceSub, ↓reduceIte,
    BitVec.reduceExtractLsb', BitVec.reduceEq, BitVec.reduceGetLsb, Bool.and_true, Bool.and_false, Bool.not_true,
    Bool.not_false, Bool.true_and, Bool.false_and, Bool.false_eq_true, and_true, and_false, true_and, false_and,
    decide_true]

theorem ofWord_hint (imm7 : BitVec 7) :
    Format.ofWord (Format.toWord (.hint imm7)) = some (.hint imm7) := by
  rw [show Format.toWord (.hint imm7) =
    BitVec.cast (by decide) (0xD5032#20 ++ imm7 ++ 0b11111#5) from rfl]
  simp (disch := omega) only [Format.ofWord, Format.ofBranchGroup, extractLsb'_cast, getLsbD_cast',
    extractLsb'_high, extractLsb'_low, extractLsb'_all, getLsbD_high, getLsbD_low, Nat.reduceSub, ↓reduceIte,
    BitVec.reduceExtractLsb', BitVec.reduceEq, BitVec.reduceGetLsb, Bool.and_true, Bool.and_false, Bool.not_true,
    Bool.not_false, Bool.true_and, Bool.false_and, Bool.false_eq_true, and_true, and_false, true_and, false_and,
    decide_true]

theorem ofWord_barrier (crm : BitVec 4) (op2 : BitVec 3) :
    Format.ofWord (Format.toWord (.barrier crm op2)) = some (.barrier crm op2) := by
  rw [show Format.toWord (.barrier crm op2) =
    BitVec.cast (by decide) (0xD5033#20 ++ crm ++ op2 ++ 0b11111#5) from rfl]
  simp (disch := omega) only [Format.ofWord, Format.ofBranchGroup, extractLsb'_cast, getLsbD_cast',
    extractLsb'_high, extractLsb'_low, extractLsb'_all, getLsbD_high, getLsbD_low, Nat.reduceSub, ↓reduceIte,
    BitVec.reduceExtractLsb', BitVec.reduceEq, BitVec.reduceGetLsb, Bool.and_true, Bool.and_false, Bool.not_true,
    Bool.not_false, Bool.true_and, Bool.false_and, Bool.false_eq_true, and_true, and_false, true_and, false_and,
    decide_true]

theorem ofWord_sysOp (op1 : BitVec 3) (crn crm : BitVec 4) (op2 : BitVec 3) (rt : RegNum) :
    Format.ofWord (Format.toWord (.sysOp op1 crn crm op2 rt)) = some (.sysOp op1 crn crm op2 rt) := by
  rw [show Format.toWord (.sysOp op1 crn crm op2 rt) =
    BitVec.cast (by decide) (0b1101010100001#13 ++ op1 ++ crn ++ crm ++ op2 ++ rt) from rfl]
  simp (disch := omega) only [Format.ofWord, Format.ofBranchGroup, extractLsb'_cast, getLsbD_cast',
    extractLsb'_high, extractLsb'_low, extractLsb'_all, getLsbD_high, getLsbD_low, Nat.reduceSub, ↓reduceIte,
    BitVec.reduceExtractLsb', BitVec.reduceEq, BitVec.reduceGetLsb, Bool.and_true, Bool.and_false, Bool.not_true,
    Bool.not_false, Bool.true_and, Bool.false_and, Bool.false_eq_true, and_true, and_false, true_and, false_and,
    decide_true]

theorem ofWord_udf (imm16 : BitVec 16) :
    Format.ofWord (Format.toWord (.udf imm16)) = some (.udf imm16) := by
  rw [show Format.toWord (.udf imm16) =
    BitVec.cast (by decide) (0#16 ++ imm16) from rfl]
  simp (disch := omega) only [Format.ofWord, extractLsb'_cast, getLsbD_cast',
    extractLsb'_high, extractLsb'_low, extractLsb'_all, getLsbD_high, getLsbD_low, Nat.reduceSub, ↓reduceIte,
    BitVec.reduceExtractLsb', BitVec.reduceEq, BitVec.reduceGetLsb, Bool.and_true, Bool.and_false, Bool.not_true,
    Bool.not_false, Bool.true_and, Bool.false_and, Bool.false_eq_true, and_true, and_false, true_and, false_and,
    decide_true]

theorem ofWord_ldstUnsigned (size opc : BitVec 2) (imm12 : BitVec 12) (rn rt : RegNum) :
    Format.ofWord (Format.toWord (.ldstUnsigned size opc imm12 rn rt)) = some (.ldstUnsigned size opc imm12 rn rt) := by
  rw [show Format.toWord (.ldstUnsigned size opc imm12 rn rt) =
    BitVec.cast (by decide) (size ++ 0b111001#6 ++ opc ++ imm12 ++ rn ++ rt) from rfl]
  simp (disch := omega) only [Format.ofWord, Format.ofLoadStoreGroup, extractLsb'_cast, getLsbD_cast',
    extractLsb'_high, extractLsb'_low, extractLsb'_all, getLsbD_high, getLsbD_low, Nat.reduceSub, ↓reduceIte,
    BitVec.reduceExtractLsb', BitVec.reduceEq, BitVec.reduceGetLsb, Bool.and_true, Bool.and_false, Bool.not_true,
    Bool.not_false, Bool.true_and, Bool.false_and, Bool.false_eq_true, and_true, and_false, true_and, false_and,
    decide_true]

theorem ofWord_ldstSigned (size opc : BitVec 2) (imm9 : BitVec 9) (mode : BitVec 2) (rn rt : RegNum) :
    Format.ofWord (Format.toWord (.ldstSigned size opc imm9 mode rn rt)) = some (.ldstSigned size opc imm9 mode rn rt) := by
  rw [show Format.toWord (.ldstSigned size opc imm9 mode rn rt) =
    BitVec.cast (by decide) (size ++ 0b111000#6 ++ opc ++ 0#1 ++ imm9 ++ mode ++ rn ++ rt) from rfl]
  simp (disch := omega) only [Format.ofWord, Format.ofLoadStoreGroup, extractLsb'_cast, getLsbD_cast',
    extractLsb'_high, extractLsb'_low, extractLsb'_all, getLsbD_high, getLsbD_low, Nat.reduceSub, ↓reduceIte,
    BitVec.reduceExtractLsb', BitVec.reduceEq, BitVec.reduceGetLsb, Bool.and_true, Bool.and_false, Bool.not_true,
    Bool.not_false, Bool.true_and, Bool.false_and, Bool.false_eq_true, and_true, and_false, true_and, false_and,
    decide_true]

theorem ofWord_ldstRegister (size opc : BitVec 2) (rm : RegNum) (option : BitVec 3) (scaled : BitVec 1) (rn rt : RegNum) :
    Format.ofWord (Format.toWord (.ldstRegister size opc rm option scaled rn rt)) = some (.ldstRegister size opc rm option scaled rn rt) := by
  rw [show Format.toWord (.ldstRegister size opc rm option scaled rn rt) =
    BitVec.cast (by decide) (size ++ 0b111000#6 ++ opc ++ 1#1 ++ rm ++ option ++ scaled ++ 0b10#2 ++ rn ++ rt) from rfl]
  simp (disch := omega) only [Format.ofWord, Format.ofLoadStoreGroup, extractLsb'_cast, getLsbD_cast',
    extractLsb'_high, extractLsb'_low, extractLsb'_all, getLsbD_high, getLsbD_low, Nat.reduceSub, ↓reduceIte,
    BitVec.reduceExtractLsb', BitVec.reduceEq, BitVec.reduceGetLsb, Bool.and_true, Bool.and_false, Bool.not_true,
    Bool.not_false, Bool.true_and, Bool.false_and, Bool.false_eq_true, and_true, and_false, true_and, false_and,
    decide_true]

theorem ofWord_ldstPair (opc mode : BitVec 2) (l : BitVec 1) (imm7 : BitVec 7) (rt2 rn rt : RegNum) :
    Format.ofWord (Format.toWord (.ldstPair opc mode l imm7 rt2 rn rt)) = some (.ldstPair opc mode l imm7 rt2 rn rt) := by
  rw [show Format.toWord (.ldstPair opc mode l imm7 rt2 rn rt) =
    BitVec.cast (by decide) (opc ++ 0b10100#5 ++ mode ++ l ++ imm7 ++ rt2 ++ rn ++ rt) from rfl]
  simp (disch := omega) only [Format.ofWord, Format.ofLoadStoreGroup, extractLsb'_cast, getLsbD_cast',
    extractLsb'_high, extractLsb'_low, extractLsb'_all, getLsbD_high, getLsbD_low, Nat.reduceSub, ↓reduceIte,
    BitVec.reduceExtractLsb', BitVec.reduceEq, BitVec.reduceGetLsb, Bool.and_true, Bool.and_false, Bool.not_true,
    Bool.not_false, Bool.true_and, Bool.false_and, Bool.false_eq_true, and_true, and_false, true_and, false_and,
    decide_true]

theorem ofWord_ldLiteral (opc : BitVec 2) (imm19 : BitVec 19) (rt : RegNum) :
    Format.ofWord (Format.toWord (.ldLiteral opc imm19 rt)) = some (.ldLiteral opc imm19 rt) := by
  rw [show Format.toWord (.ldLiteral opc imm19 rt) =
    BitVec.cast (by decide) (opc ++ 0b011000#6 ++ imm19 ++ rt) from rfl]
  simp (disch := omega) only [Format.ofWord, Format.ofLoadStoreGroup, extractLsb'_cast, getLsbD_cast',
    extractLsb'_high, extractLsb'_low, extractLsb'_all, getLsbD_high, getLsbD_low, Nat.reduceSub, ↓reduceIte,
    BitVec.reduceExtractLsb', BitVec.reduceEq, BitVec.reduceGetLsb, Bool.and_true, Bool.and_false, Bool.not_true,
    Bool.not_false, Bool.true_and, Bool.false_and, Bool.false_eq_true, and_true, and_false, true_and, false_and,
    decide_true]

theorem ofWord_ldstExclusive (size : BitVec 2) (o2 l o1 : BitVec 1) (rs : RegNum) (o0 : BitVec 1) (rt2 rn rt : RegNum) :
    Format.ofWord (Format.toWord (.ldstExclusive size o2 l o1 rs o0 rt2 rn rt)) = some (.ldstExclusive size o2 l o1 rs o0 rt2 rn rt) := by
  rw [show Format.toWord (.ldstExclusive size o2 l o1 rs o0 rt2 rn rt) =
    BitVec.cast (by decide) (size ++ 0b001000#6 ++ o2 ++ l ++ o1 ++ rs ++ o0 ++ rt2 ++ rn ++ rt) from rfl]
  simp (disch := omega) only [Format.ofWord, Format.ofLoadStoreGroup, extractLsb'_cast, getLsbD_cast',
    extractLsb'_high, extractLsb'_low, extractLsb'_all, getLsbD_high, getLsbD_low, Nat.reduceSub, ↓reduceIte,
    BitVec.reduceExtractLsb', BitVec.reduceEq, BitVec.reduceGetLsb, Bool.and_true, Bool.and_false, Bool.not_true,
    Bool.not_false, Bool.true_and, Bool.false_and, Bool.false_eq_true, and_true, and_false, true_and, false_and,
    decide_true]

theorem ofWord_atomic (size : BitVec 2) (a r : BitVec 1) (rs : RegNum) (o3 : BitVec 1) (opc : BitVec 3) (rn rt : RegNum) :
    Format.ofWord (Format.toWord (.atomic size a r rs o3 opc rn rt)) = some (.atomic size a r rs o3 opc rn rt) := by
  rw [show Format.toWord (.atomic size a r rs o3 opc rn rt) =
    BitVec.cast (by decide) (size ++ 0b111000#6 ++ a ++ r ++ 1#1 ++ rs ++ o3 ++ opc ++ 0b00#2 ++ rn ++ rt) from rfl]
  simp (disch := omega) only [Format.ofWord, Format.ofLoadStoreGroup, extractLsb'_cast, getLsbD_cast',
    extractLsb'_high, extractLsb'_low, extractLsb'_all, getLsbD_high, getLsbD_low, Nat.reduceSub, ↓reduceIte,
    BitVec.reduceExtractLsb', BitVec.reduceEq, BitVec.reduceGetLsb, Bool.and_true, Bool.and_false, Bool.not_true,
    Bool.not_false, Bool.true_and, Bool.false_and, Bool.false_eq_true, and_true, and_false, true_and, false_and,
    decide_true]

/-- Splitting the word of a format gives the format back, whatever its fields. -/
theorem ofWord_toWord (f : Format) : Format.ofWord f.toWord = some f := by
  cases f with
  | pcRel a b c d => exact ofWord_pcRel a b c d
  | addSubImm a b c d e f g => exact ofWord_addSubImm a b c d e f g
  | logicalImm a b c d e f g => exact ofWord_logicalImm a b c d e f g
  | moveWide a b c d e => exact ofWord_moveWide a b c d e
  | bitfield a b c d e f g => exact ofWord_bitfield a b c d e f g
  | extract a b c d e f g h => exact ofWord_extract a b c d e f g h
  | logicalShift a b c d e f g h => exact ofWord_logicalShift a b c d e f g h
  | addSubShift a b c d e f g h => exact ofWord_addSubShift a b c d e f g h
  | addSubExt a b c d e f g h i => exact ofWord_addSubExt a b c d e f g h i
  | addSubCarry a b c d e f g => exact ofWord_addSubCarry a b c d e f g
  | condCmp a b c d e f g h i j => exact ofWord_condCmp a b c d e f g h i j
  | condSel a b c d e f g h => exact ofWord_condSel a b c d e f g h
  | dp1 a b c d e => exact ofWord_dp1 a b c d e
  | dp2 a b c d e => exact ofWord_dp2 a b c d e
  | dp3 a b c d e f g h => exact ofWord_dp3 a b c d e f g h
  | branchImm a b => exact ofWord_branchImm a b
  | compareBranch a b c d => exact ofWord_compareBranch a b c d
  | testBranch a b c d e => exact ofWord_testBranch a b c d e
  | condBranch a b c d => exact ofWord_condBranch a b c d
  | branchReg a b c d e => exact ofWord_branchReg a b c d e
  | exception a b c => exact ofWord_exception a b c
  | sysRegMove a b c => exact ofWord_sysRegMove a b c
  | hint a => exact ofWord_hint a
  | barrier a b => exact ofWord_barrier a b
  | sysOp a b c d e => exact ofWord_sysOp a b c d e
  | udf a => exact ofWord_udf a
  | ldstUnsigned a b c d e => exact ofWord_ldstUnsigned a b c d e
  | ldstSigned a b c d e f => exact ofWord_ldstSigned a b c d e f
  | ldstRegister a b c d e f g => exact ofWord_ldstRegister a b c d e f g
  | ldstPair a b c d e f g => exact ofWord_ldstPair a b c d e f g
  | ldLiteral a b c => exact ofWord_ldLiteral a b c
  | ldstExclusive a b c d e f g h i => exact ofWord_ldstExclusive a b c d e f g h i
  | atomic a b c d e f g h => exact ofWord_atomic a b c d e f g h

end Sys2Proof.Laws
end

