-- ==== Sys2Proof/Laws/Features.lean ====
section
/-! SUPPORT. The feature set is read by the host's services alone (R53, D37): every update commutes with a
change of it, and every check and access passes it on. -/

namespace Sys2Proof.Machine

/-- The same state with another feature set. -/
def State.withFeatures (s : State) (features : List Feature) : State := { s with features := features }

/-- The same result with another feature set in its next state. -/
def withFeatures (features : List Feature) : Result → Result
  | .next t => .next (t.withFeatures features)
  | .fault f => .fault f
  | .refused r => .refused r

namespace Features

variable {s t u : State} {fs : List Feature} {k k' : Result}

/-! ## Updates -/

theorem wrRz {n : Nat} (i : RegNum) (v : BitVec n) :
    (s.withFeatures fs).wrRz i v = (s.wrRz i v).withFeatures fs := by unfold State.wrRz; split <;> rfl

theorem wrRsp {n : Nat} (i : RegNum) (v : BitVec n) :
    (s.withFeatures fs).wrRsp i v = (s.wrRsp i v).withFeatures fs := by unfold State.wrRsp; split <;> rfl

theorem loadTo (addr : Word) (size : Nat) (signed : Bool) (n : Nat) (rt : RegNum) :
    (s.withFeatures fs).loadTo addr size signed n rt = (s.loadTo addr size signed n rt).withFeatures fs :=
  wrRz _ _

theorem loadPairTo (addr : Word) (size : Nat) (signed : Bool) (n : Nat) (rt rt2 : RegNum) :
    (s.withFeatures fs).loadPairTo addr size signed n rt rt2 =
      (s.loadPairTo addr size signed n rt rt2).withFeatures fs := by
  unfold State.loadPairTo; rw [wrRz, wrRz]; rfl

theorem link : (s.withFeatures fs).link = s.link.withFeatures fs := wrRz _ _

theorem branchIf (b : Bool) (a : Word) :
    (s.withFeatures fs).branchIf b a = (s.branchIf b a).withFeatures fs := by
  unfold State.branchIf; split <;> rfl

theorem wrRzFlags {n : Nat} (rd : RegNum) (r : BitVec n × Nzcv) :
    (s.withFeatures fs).wrRzFlags rd r = (s.wrRzFlags rd r).withFeatures fs :=
  congrArg (State.setFlags · r.2) (wrRz rd r.1)

theorem rndrDraw (rt : RegNum) : (s.withFeatures fs).rndrDraw rt = (s.rndrDraw rt).withFeatures fs := by
  simp only [State.rndrDraw, wrRz]; rfl

/-! ## Results -/

theorem next (h : u = t.withFeatures fs) : Host.Outcome.next u = withFeatures fs (.next t) := by rw [h]; rfl

theorem ite {c : Prop} [Decidable c] {a b a' b' : Result} (ha : a' = withFeatures fs a)
    (hb : b' = withFeatures fs b) : (if c then a' else b') = withFeatures fs (if c then a else b) := by
  split
  · exact ha
  · exact hb

theorem whenWellFormed {i : Instr} (h : k' = withFeatures fs k) :
    whenWellFormed i (s.withFeatures fs) k' = withFeatures fs (whenWellFormed i s k) := ite h rfl

theorem checkSp {rn : RegNum} (h : k' = withFeatures fs k) :
    (s.withFeatures fs).checkSp rn k' = withFeatures fs (s.checkSp rn k) := ite rfl h

theorem checkLine {a : Word} {n : Nat} (h : k' = withFeatures fs k) :
    (s.withFeatures fs).checkLine a n k' = withFeatures fs (s.checkLine a n k) := ite rfl h

theorem checkValid {a : Word} {n : Nat} (h : k' = withFeatures fs k) :
    (s.withFeatures fs).checkValid a n k' = withFeatures fs (s.checkValid a n k) := ite h rfl

theorem checkPair {a : Word} {n : Nat} (h : k' = withFeatures fs k) :
    (s.withFeatures fs).checkPair a n k' = withFeatures fs (s.checkPair a n k) := checkValid (checkValid h)

theorem checkWriteback {c : Command} {rn rt : RegNum} (h : k' = withFeatures fs k) :
    (s.withFeatures fs).checkWriteback c rn rt k' = withFeatures fs (s.checkWriteback c rn rt k) := ite rfl h

theorem checkLoadPair {c : Command} {rt rt2 : RegNum} (h : k' = withFeatures fs k) :
    (s.withFeatures fs).checkLoadPair c rt rt2 k' = withFeatures fs (s.checkLoadPair c rt rt2 k) := ite rfl h

theorem checkStatusRegister {c : Command} {rs rn rt : RegNum} (h : k' = withFeatures fs k) :
    (s.withFeatures fs).checkStatusRegister c rs rn rt k' =
      withFeatures fs (s.checkStatusRegister c rs rn rt k) := ite rfl h

theorem checkAtomic {rn : RegNum} {n : Nat} (h : k' = withFeatures fs k) :
    (s.withFeatures fs).checkAtomic rn n k' = withFeatures fs (s.checkAtomic rn n k) :=
  checkSp (checkLine (checkValid h))

/-! ## Accesses -/

theorem load (rn rt : RegNum) (addr : Word) (size : Nat) (signed : Bool) (n : Nat) :
    (s.withFeatures fs).load rn rt addr size signed n = withFeatures fs (s.load rn rt addr size signed n) :=
  checkSp (checkValid (next (loadTo ..)))

theorem storeAt (rn rt : RegNum) (addr : Word) (size : Nat) :
    (s.withFeatures fs).storeAt rn rt addr size = withFeatures fs (s.storeAt rn rt addr size) :=
  checkSp (checkValid (next rfl))

theorem loadIndexed (c : Command) (rn rt : RegNum) (addr back : Word) (size : Nat) (signed : Bool) (n : Nat) :
    (s.withFeatures fs).loadIndexed c rn rt addr back size signed n =
      withFeatures fs (s.loadIndexed c rn rt addr back size signed n) :=
  checkWriteback (checkSp (checkValid (next (by rw [loadTo, wrRsp]))))

theorem storeIndexed (c : Command) (rn rt : RegNum) (addr back : Word) (size : Nat) :
    (s.withFeatures fs).storeIndexed c rn rt addr back size =
      withFeatures fs (s.storeIndexed c rn rt addr back size) :=
  checkWriteback (checkSp (checkValid (next (wrRsp (s := s.storeFrom addr size rt) _ _))))

theorem loadPair (c : Command) (rn rt rt2 : RegNum) (addr : Word) (size : Nat) (signed : Bool) (n : Nat) :
    (s.withFeatures fs).loadPair c rn rt rt2 addr size signed n =
      withFeatures fs (s.loadPair c rn rt rt2 addr size signed n) :=
  checkLoadPair (checkSp (checkPair (next (loadPairTo ..))))

theorem storePair (rn rt rt2 : RegNum) (addr : Word) (size : Nat) :
    (s.withFeatures fs).storePair rn rt rt2 addr size = withFeatures fs (s.storePair rn rt rt2 addr size) :=
  checkSp (checkPair (next rfl))

theorem loadPairIndexed (c : Command) (rn rt rt2 : RegNum) (addr back : Word) (size : Nat) (signed : Bool) (n : Nat) :
    (s.withFeatures fs).loadPairIndexed c rn rt rt2 addr back size signed n =
      withFeatures fs (s.loadPairIndexed c rn rt rt2 addr back size signed n) :=
  checkLoadPair (checkWriteback (checkWriteback (checkSp (checkPair (next (by rw [loadPairTo, wrRsp]))))))

theorem storePairIndexed (c : Command) (rn rt rt2 : RegNum) (addr back : Word) (size : Nat) :
    (s.withFeatures fs).storePairIndexed c rn rt rt2 addr back size =
      withFeatures fs (s.storePairIndexed c rn rt rt2 addr back size) :=
  checkWriteback (checkWriteback (checkSp (checkPair
    (next (wrRsp (s := s.storePairFrom addr size rt rt2) _ _)))))

theorem loadLiteral (rt : RegNum) (addr : Word) (size : Nat) (signed : Bool) (n : Nat) :
    (s.withFeatures fs).loadLiteral rt addr size signed n =
      withFeatures fs (s.loadLiteral rt addr size signed n) :=
  checkValid (next (loadTo ..))

theorem loadExclusive (size : AccessSize) (rn rt : RegNum) :
    (s.withFeatures fs).loadExclusive size rn rt = withFeatures fs (s.loadExclusive size rn rt) :=
  checkAtomic (next (by rw [loadTo]; rfl))

theorem storeExclusive (c : Command) (size : AccessSize) (rs rn rt : RegNum) :
    (s.withFeatures fs).storeExclusive c size rs rn rt = withFeatures fs (s.storeExclusive c size rs rn rt) :=
  checkStatusRegister (checkAtomic (ite
    (next (wrRz (s := s.store (s.base rn) (accessBytes size) (s.rz 64 rt)) _ _))
    (next (wrRz (s := s.clearLocal) _ _))))

theorem loadAcquire (size : AccessSize) (rn rt : RegNum) :
    (s.withFeatures fs).loadAcquire size rn rt = withFeatures fs (s.loadAcquire size rn rt) :=
  checkAtomic (next (loadTo ..))

theorem storeRelease (size : AccessSize) (rn rt : RegNum) :
    (s.withFeatures fs).storeRelease size rn rt = withFeatures fs (s.storeRelease size rn rt) :=
  checkAtomic (next rfl)

theorem atomicUpdate (size : AccessSize) (rs rn rt : RegNum)
    (op : BitVec (8 * accessBytes size) → BitVec (8 * accessBytes size) → BitVec (8 * accessBytes size)) :
    (s.withFeatures fs).atomicUpdate size rs rn rt op = withFeatures fs (s.atomicUpdate size rs rn rt op) :=
  checkAtomic (next (wrRz (s := s.store (s.base rn) (accessBytes size) _) _ _))

end Features

end Sys2Proof.Machine
end

