-- ==== Sys2Proof/Laws/Memory.lean ====
section
/-! SUPPORT. Memory: every operation keeps the canonical form, a read after a write gives the value
written, a write leaves every other byte alone. -/

namespace Sys2Proof.Machine

theorem Memory.wfFrom_mono {lo hi : Nat} (h : lo ≤ hi) {m : List Host.Cell} (hm : Memory.wfFrom hi m = true) :
    Memory.wfFrom lo m = true := by
  cases m with
  | nil => rfl
  | cons c m =>
    simp only [Memory.wfFrom, Bool.and_eq_true, decide_eq_true_eq] at hm ⊢
    exact ⟨⟨by omega, hm.1.2⟩, hm.2⟩

/-- Below the first listed address nothing is listed. -/
theorem Memory.get_below {lo : Nat} {m : List Host.Cell} (hm : Memory.wfFrom lo m = true) {j : Nat} (hj : j < lo) :
    Memory.get m j = Memory.unlisted := by
  induction m generalizing lo with
  | nil => rfl
  | cons c m ih =>
    simp only [Memory.wfFrom, Bool.and_eq_true, decide_eq_true_eq] at hm
    have h : ¬ c.1 = j := by omega
    simp only [Memory.get, h, if_false]
    exact ih hm.2 (by omega)

theorem Memory.get_set_ne (m : List Host.Cell) {k j : Nat} (v : Byte) (h : j ≠ k) :
    Memory.get (Memory.set m k v) j = Memory.get m j := by
  have hk : ¬ k = j := fun e => h e.symm
  induction m with
  | nil => simp only [Memory.set]; split <;> simp [Memory.get, hk]
  | cons c m ih =>
    simp only [Memory.set]
    split
    · split <;> simp [Memory.get, hk]
    · split
      · next h2 => subst h2; split <;> simp [Memory.get, hk]
      · simp [Memory.get, ih]

theorem Memory.get_set_eq {lo : Nat} {m : List Host.Cell} (hm : Memory.wfFrom lo m = true) (k : Nat) (v : Byte) :
    Memory.get (Memory.set m k v) k = v := by
  induction m generalizing lo with
  | nil =>
    simp only [Memory.set]
    split
    · next h => simp [Memory.get, h]
    · simp [Memory.get]
  | cons c m ih =>
    simp only [Memory.wfFrom, Bool.and_eq_true, decide_eq_true_eq] at hm
    simp only [Memory.set]
    split
    · next hlt =>
      split
      · next hv =>
        have h : ¬ c.1 = k := by omega
        simp only [Memory.get, h, if_false]
        rw [Memory.get_below hm.2 (by omega), hv]
      · simp [Memory.get]
    · split
      · next he =>
        split
        · next hv => rw [Memory.get_below hm.2 (by omega), hv]
        · simp [Memory.get]
      · next hne =>
        have h : ¬ c.1 = k := fun e => hne e.symm
        simp only [Memory.get, h, if_false]
        exact ih hm.2

/-- Reading any byte after one byte is written. -/
theorem Memory.get_set {m : List Host.Cell} (hm : Memory.wf m = true) (k j : Nat) (v : Byte) :
    Memory.get (Memory.set m k v) j = if j = k then v else Memory.get m j := by
  split
  · next h => subst h; exact Memory.get_set_eq hm j v
  · next h => exact Memory.get_set_ne m v h

theorem Memory.wfFrom_set {lo : Nat} {m : List Host.Cell} (hm : Memory.wfFrom lo m = true) {k : Nat} (v : Byte)
    (hlo : lo ≤ k) (hk : k < 2 ^ 64) : Memory.wfFrom lo (Memory.set m k v) = true := by
  induction m generalizing lo with
  | nil =>
    simp only [Memory.set]
    split
    · rfl
    · next h =>
      simp only [Memory.wfFrom, Bool.and_true, decide_eq_true_eq]
      exact ⟨hlo, hk, h⟩
  | cons c m ih =>
    have hm' := hm
    simp only [Memory.wfFrom, Bool.and_eq_true, decide_eq_true_eq] at hm'
    simp only [Memory.set]
    split
    · next hlt =>
      split
      · exact hm
      · next hv =>
        simp only [Memory.wfFrom, Bool.and_eq_true, decide_eq_true_eq]
        exact ⟨⟨hlo, hk, hv⟩, ⟨by omega, hm'.1.2⟩, hm'.2⟩
    · split
      · next he =>
        subst he
        split
        · exact Memory.wfFrom_mono (by omega) hm'.2
        · next hv =>
          simp only [Memory.wfFrom, Bool.and_eq_true, decide_eq_true_eq]
          exact ⟨⟨hlo, hk, hv⟩, hm'.2⟩
      · simp only [Memory.wfFrom, Bool.and_eq_true, decide_eq_true_eq]
        exact ⟨hm'.1, ih hm'.2 (by omega)⟩

theorem Memory.wf_set {m : List Host.Cell} (hm : Memory.wf m = true) {k : Nat} (v : Byte) (hk : k < 2 ^ 64) :
    Memory.wf (Memory.set m k v) = true :=
  Memory.wfFrom_set hm v (Nat.zero_le k) hk

theorem byteAddress_lt (addr : Word) (k : Nat) : byteAddress addr k < 2 ^ 64 := (addr + BitVec.ofNat 64 k).isLt

/-- Inside the address space the bytes of an access are consecutive. -/
theorem byteAddress_eq {addr : Word} {k n : Nat} (h : addr.toNat + n ≤ 2 ^ 64) (hk : k < n) :
    byteAddress addr k = addr.toNat + k := by
  simp only [byteAddress, BitVec.toNat_add, BitVec.toNat_ofNat]
  omega

theorem byteAddress_inj {addr : Word} {j k : Nat} (hj : j < 2 ^ 64) (hk : k < 2 ^ 64)
    (h : byteAddress addr j = byteAddress addr k) : j = k := by
  have := addr.isLt
  simp only [byteAddress, BitVec.toNat_add, BitVec.toNat_ofNat] at h
  omega

theorem Memory.wf_write {w : Nat} {m : List Host.Cell} (hm : Memory.wf m = true) (addr : Word) (v : BitVec w)
    (n : Nat) : Memory.wf (Memory.write m addr v n) = true := by
  induction n with
  | zero => exact hm
  | succ n ih => exact Memory.wf_set ih _ (byteAddress_lt addr n)

theorem Memory.wf_ofCells (m : List Host.Cell) : Memory.wf (Memory.ofCells m) = true := by
  induction m with
  | nil => rfl
  | cons c m ih => exact Memory.wf_set ih _ (Nat.mod_lt _ (by norm_num))

/-- A byte outside the written ones reads as before. -/
theorem Memory.get_write_of_ne {w : Nat} (m : List Host.Cell) (addr : Word) (v : BitVec w) (n a : Nat)
    (h : ∀ k < n, a ≠ byteAddress addr k) : Memory.get (Memory.write m addr v n) a = Memory.get m a := by
  induction n with
  | zero => rfl
  | succ n ih =>
    rw [Memory.write, Memory.get_set_ne _ _ (h n (by omega))]
    exact ih fun k hk => h k (by omega)

/-- A written byte reads as the byte of the value. -/
theorem Memory.get_write {w : Nat} {m : List Host.Cell} (hm : Memory.wf m = true) (addr : Word) (v : BitVec w)
    {n k : Nat} (hn : n ≤ 2 ^ 64) (hk : k < n) :
    Memory.get (Memory.write m addr v n) (byteAddress addr k) = v.extractLsb' (8 * k) 8 := by
  induction n with
  | zero => omega
  | succ n ih =>
    rw [Memory.write, Memory.get_set (Memory.wf_write hm addr v n)]
    split
    · next h => rw [byteAddress_inj (by omega) (by omega) h]
    · next h =>
      have : k ≠ n := fun e => h (by rw [e])
      exact ih (by omega) (by omega)

theorem getLsbD_memory_read (m : List Host.Cell) (addr : Word) (n i : Nat) :
    (Memory.read m addr n).getLsbD i = (decide (i < 8 * n) && (Memory.get m (byteAddress addr (i / 8))).getLsbD (i % 8)) := by
  induction n with
  | zero => simp [Memory.read]
  | succ n ih =>
    rw [Memory.read, BitVec.getLsbD_cast, BitVec.getLsbD_append, ih]
    by_cases h : i < 8 * n
    · have h' : i < 8 * (n + 1) := by omega
      simp [h, h']
    · by_cases h2 : i < 8 * (n + 1)
      · have h3 : i / 8 = n := by omega
        have h4 : i - 8 * n = i % 8 := by omega
        simp [h, h2, h3, h4]
      · have h5 : 8 ≤ i - 8 * n := by omega
        simp [h, h2, BitVec.getLsbD_of_ge _ _ h5]

/-- A read after a write at the same address gives the bytes written (R61, R64). -/
theorem Memory.read_write {w : Nat} {m : List Host.Cell} (hm : Memory.wf m = true) (addr : Word) (v : BitVec w)
    {n : Nat} (hn : n ≤ 2 ^ 64) : Memory.read (Memory.write m addr v n) addr n = v.setWidth (8 * n) := by
  apply BitVec.eq_of_getLsbD_eq
  intro i hi
  rw [getLsbD_memory_read, Memory.get_write hm addr v hn (by omega : i / 8 < n), BitVec.getLsbD_extractLsb',
    BitVec.getLsbD_setWidth]
  have h1 : i % 8 < 8 := by omega
  have h2 : 8 * (i / 8) + i % 8 = i := by omega
  simp [hi, h1, h2]

/-- A read of bytes that a write does not touch gives what it gave before. -/
theorem Memory.read_write_of_ne {w : Nat} (m : List Host.Cell) (addr addr' : Word) (v : BitVec w) (n n' : Nat)
    (h : ∀ j < n', ∀ k < n, byteAddress addr' j ≠ byteAddress addr k) :
    Memory.read (Memory.write m addr v n) addr' n' = Memory.read m addr' n' := by
  apply BitVec.eq_of_getLsbD_eq
  intro i hi
  rw [getLsbD_memory_read, getLsbD_memory_read, Memory.get_write_of_ne _ _ _ _ _ (h (i / 8) (by omega))]

end Sys2Proof.Machine
end

