-- ==== Sys2Proof/Laws/State.lean ====
section
/-! SUPPORT. One lemma per field per update of the state. -/

namespace Sys2Proof.Machine

variable (s : State)

/-! ### wrRz -/

@[simp] theorem State.wrRz_sp {n : Nat} (i : RegNum) (v : BitVec n) : (s.wrRz i v).sp = s.sp := by
  unfold State.wrRz; split <;> rfl
@[simp] theorem State.wrRz_pc {n : Nat} (i : RegNum) (v : BitVec n) : (s.wrRz i v).pc = s.pc := by
  unfold State.wrRz; split <;> rfl
@[simp] theorem State.wrRz_pcModified {n : Nat} (i : RegNum) (v : BitVec n) : (s.wrRz i v).pcModified = s.pcModified := by
  unfold State.wrRz; split <;> rfl
@[simp] theorem State.wrRz_nzcv {n : Nat} (i : RegNum) (v : BitVec n) : (s.wrRz i v).nzcv = s.nzcv := by
  unfold State.wrRz; split <;> rfl
@[simp] theorem State.wrRz_fpcr {n : Nat} (i : RegNum) (v : BitVec n) : (s.wrRz i v).fpcr = s.fpcr := by
  unfold State.wrRz; split <;> rfl
@[simp] theorem State.wrRz_rndr {n : Nat} (i : RegNum) (v : BitVec n) : (s.wrRz i v).rndr = s.rndr := by
  unfold State.wrRz; split <;> rfl
@[simp] theorem State.wrRz_z {n : Nat} (i : RegNum) (v : BitVec n) : (s.wrRz i v).z = s.z := by
  unfold State.wrRz; split <;> rfl
@[simp] theorem State.wrRz_p {n : Nat} (i : RegNum) (v : BitVec n) : (s.wrRz i v).p = s.p := by
  unfold State.wrRz; split <;> rfl
@[simp] theorem State.wrRz_mem {n : Nat} (i : RegNum) (v : BitVec n) : (s.wrRz i v).mem = s.mem := by
  unfold State.wrRz; split <;> rfl
@[simp] theorem State.wrRz_localMonitor {n : Nat} (i : RegNum) (v : BitVec n) : (s.wrRz i v).localMonitor = s.localMonitor := by
  unfold State.wrRz; split <;> rfl
@[simp] theorem State.wrRz_globalMonitor {n : Nat} (i : RegNum) (v : BitVec n) : (s.wrRz i v).globalMonitor = s.globalMonitor := by
  unfold State.wrRz; split <;> rfl
@[simp] theorem State.wrRz_btype {n : Nat} (i : RegNum) (v : BitVec n) : (s.wrRz i v).btype = s.btype := by
  unfold State.wrRz; split <;> rfl
@[simp] theorem State.wrRz_btypeNext {n : Nat} (i : RegNum) (v : BitVec n) : (s.wrRz i v).btypeNext = s.btypeNext := by
  unfold State.wrRz; split <;> rfl
@[simp] theorem State.wrRz_movprfx {n : Nat} (i : RegNum) (v : BitVec n) : (s.wrRz i v).movprfx = s.movprfx := by
  unfold State.wrRz; split <;> rfl
@[simp] theorem State.wrRz_status {n : Nat} (i : RegNum) (v : BitVec n) : (s.wrRz i v).status = s.status := by
  unfold State.wrRz; split <;> rfl
@[simp] theorem State.wrRz_features {n : Nat} (i : RegNum) (v : BitVec n) : (s.wrRz i v).features = s.features := by
  unfold State.wrRz; split <;> rfl
@[simp] theorem State.wrRz_freeCount {n : Nat} (i : RegNum) (v : BitVec n) : (s.wrRz i v).freeCount = s.freeCount := by
  unfold State.wrRz; split <;> rfl
@[simp] theorem State.wrRz_platform {n : Nat} (i : RegNum) (v : BitVec n) : (s.wrRz i v).platform = s.platform := by
  unfold State.wrRz; split <;> rfl

/-! ### wrRsp -/

@[simp] theorem State.wrRsp_pc {n : Nat} (i : RegNum) (v : BitVec n) : (s.wrRsp i v).pc = s.pc := by
  unfold State.wrRsp; split <;> rfl
@[simp] theorem State.wrRsp_pcModified {n : Nat} (i : RegNum) (v : BitVec n) : (s.wrRsp i v).pcModified = s.pcModified := by
  unfold State.wrRsp; split <;> rfl
@[simp] theorem State.wrRsp_nzcv {n : Nat} (i : RegNum) (v : BitVec n) : (s.wrRsp i v).nzcv = s.nzcv := by
  unfold State.wrRsp; split <;> rfl
@[simp] theorem State.wrRsp_fpcr {n : Nat} (i : RegNum) (v : BitVec n) : (s.wrRsp i v).fpcr = s.fpcr := by
  unfold State.wrRsp; split <;> rfl
@[simp] theorem State.wrRsp_rndr {n : Nat} (i : RegNum) (v : BitVec n) : (s.wrRsp i v).rndr = s.rndr := by
  unfold State.wrRsp; split <;> rfl
@[simp] theorem State.wrRsp_z {n : Nat} (i : RegNum) (v : BitVec n) : (s.wrRsp i v).z = s.z := by
  unfold State.wrRsp; split <;> rfl
@[simp] theorem State.wrRsp_p {n : Nat} (i : RegNum) (v : BitVec n) : (s.wrRsp i v).p = s.p := by
  unfold State.wrRsp; split <;> rfl
@[simp] theorem State.wrRsp_mem {n : Nat} (i : RegNum) (v : BitVec n) : (s.wrRsp i v).mem = s.mem := by
  unfold State.wrRsp; split <;> rfl
@[simp] theorem State.wrRsp_localMonitor {n : Nat} (i : RegNum) (v : BitVec n) : (s.wrRsp i v).localMonitor = s.localMonitor := by
  unfold State.wrRsp; split <;> rfl
@[simp] theorem State.wrRsp_globalMonitor {n : Nat} (i : RegNum) (v : BitVec n) : (s.wrRsp i v).globalMonitor = s.globalMonitor := by
  unfold State.wrRsp; split <;> rfl
@[simp] theorem State.wrRsp_btype {n : Nat} (i : RegNum) (v : BitVec n) : (s.wrRsp i v).btype = s.btype := by
  unfold State.wrRsp; split <;> rfl
@[simp] theorem State.wrRsp_btypeNext {n : Nat} (i : RegNum) (v : BitVec n) : (s.wrRsp i v).btypeNext = s.btypeNext := by
  unfold State.wrRsp; split <;> rfl
@[simp] theorem State.wrRsp_movprfx {n : Nat} (i : RegNum) (v : BitVec n) : (s.wrRsp i v).movprfx = s.movprfx := by
  unfold State.wrRsp; split <;> rfl
@[simp] theorem State.wrRsp_status {n : Nat} (i : RegNum) (v : BitVec n) : (s.wrRsp i v).status = s.status := by
  unfold State.wrRsp; split <;> rfl
@[simp] theorem State.wrRsp_features {n : Nat} (i : RegNum) (v : BitVec n) : (s.wrRsp i v).features = s.features := by
  unfold State.wrRsp; split <;> rfl
@[simp] theorem State.wrRsp_freeCount {n : Nat} (i : RegNum) (v : BitVec n) : (s.wrRsp i v).freeCount = s.freeCount := by
  unfold State.wrRsp; split <;> rfl
@[simp] theorem State.wrRsp_platform {n : Nat} (i : RegNum) (v : BitVec n) : (s.wrRsp i v).platform = s.platform := by
  unfold State.wrRsp; split <;> rfl

/-! ### setFlags -/

@[simp] theorem State.setFlags_x (f : Nzcv) : (s.setFlags f).x = s.x := rfl
@[simp] theorem State.setFlags_sp (f : Nzcv) : (s.setFlags f).sp = s.sp := rfl
@[simp] theorem State.setFlags_pc (f : Nzcv) : (s.setFlags f).pc = s.pc := rfl
@[simp] theorem State.setFlags_pcModified (f : Nzcv) : (s.setFlags f).pcModified = s.pcModified := rfl
@[simp] theorem State.setFlags_nzcv (f : Nzcv) : (s.setFlags f).nzcv = f := rfl
@[simp] theorem State.setFlags_fpcr (f : Nzcv) : (s.setFlags f).fpcr = s.fpcr := rfl
@[simp] theorem State.setFlags_rndr (f : Nzcv) : (s.setFlags f).rndr = s.rndr := rfl
@[simp] theorem State.setFlags_z (f : Nzcv) : (s.setFlags f).z = s.z := rfl
@[simp] theorem State.setFlags_p (f : Nzcv) : (s.setFlags f).p = s.p := rfl
@[simp] theorem State.setFlags_mem (f : Nzcv) : (s.setFlags f).mem = s.mem := rfl
@[simp] theorem State.setFlags_localMonitor (f : Nzcv) : (s.setFlags f).localMonitor = s.localMonitor := rfl
@[simp] theorem State.setFlags_globalMonitor (f : Nzcv) : (s.setFlags f).globalMonitor = s.globalMonitor := rfl
@[simp] theorem State.setFlags_btype (f : Nzcv) : (s.setFlags f).btype = s.btype := rfl
@[simp] theorem State.setFlags_btypeNext (f : Nzcv) : (s.setFlags f).btypeNext = s.btypeNext := rfl
@[simp] theorem State.setFlags_movprfx (f : Nzcv) : (s.setFlags f).movprfx = s.movprfx := rfl
@[simp] theorem State.setFlags_status (f : Nzcv) : (s.setFlags f).status = s.status := rfl
@[simp] theorem State.setFlags_features (f : Nzcv) : (s.setFlags f).features = s.features := rfl
@[simp] theorem State.setFlags_freeCount (f : Nzcv) : (s.setFlags f).freeCount = s.freeCount := rfl
@[simp] theorem State.setFlags_platform (f : Nzcv) : (s.setFlags f).platform = s.platform := rfl

/-! ### branchTo -/

@[simp] theorem State.branchTo_x (t : Word) : (s.branchTo t).x = s.x := rfl
@[simp] theorem State.branchTo_sp (t : Word) : (s.branchTo t).sp = s.sp := rfl
@[simp] theorem State.branchTo_pc (t : Word) : (s.branchTo t).pc = t := rfl
@[simp] theorem State.branchTo_pcModified (t : Word) : (s.branchTo t).pcModified = true := rfl
@[simp] theorem State.branchTo_nzcv (t : Word) : (s.branchTo t).nzcv = s.nzcv := rfl
@[simp] theorem State.branchTo_fpcr (t : Word) : (s.branchTo t).fpcr = s.fpcr := rfl
@[simp] theorem State.branchTo_rndr (t : Word) : (s.branchTo t).rndr = s.rndr := rfl
@[simp] theorem State.branchTo_z (t : Word) : (s.branchTo t).z = s.z := rfl
@[simp] theorem State.branchTo_p (t : Word) : (s.branchTo t).p = s.p := rfl
@[simp] theorem State.branchTo_mem (t : Word) : (s.branchTo t).mem = s.mem := rfl
@[simp] theorem State.branchTo_localMonitor (t : Word) : (s.branchTo t).localMonitor = s.localMonitor := rfl
@[simp] theorem State.branchTo_globalMonitor (t : Word) : (s.branchTo t).globalMonitor = s.globalMonitor := rfl
@[simp] theorem State.branchTo_btype (t : Word) : (s.branchTo t).btype = s.btype := rfl
@[simp] theorem State.branchTo_btypeNext (t : Word) : (s.branchTo t).btypeNext = s.btypeNext := rfl
@[simp] theorem State.branchTo_movprfx (t : Word) : (s.branchTo t).movprfx = s.movprfx := rfl
@[simp] theorem State.branchTo_status (t : Word) : (s.branchTo t).status = s.status := rfl
@[simp] theorem State.branchTo_features (t : Word) : (s.branchTo t).features = s.features := rfl
@[simp] theorem State.branchTo_freeCount (t : Word) : (s.branchTo t).freeCount = s.freeCount := rfl
@[simp] theorem State.branchTo_platform (t : Word) : (s.branchTo t).platform = s.platform := rfl

/-! ### link -/

@[simp] theorem State.link_sp : (s.link).sp = s.sp := by
  unfold State.link State.wrRz; split <;> rfl
@[simp] theorem State.link_pc : (s.link).pc = s.pc := by
  unfold State.link State.wrRz; split <;> rfl
@[simp] theorem State.link_pcModified : (s.link).pcModified = s.pcModified := by
  unfold State.link State.wrRz; split <;> rfl
@[simp] theorem State.link_nzcv : (s.link).nzcv = s.nzcv := by
  unfold State.link State.wrRz; split <;> rfl
@[simp] theorem State.link_fpcr : (s.link).fpcr = s.fpcr := by
  unfold State.link State.wrRz; split <;> rfl
@[simp] theorem State.link_rndr : (s.link).rndr = s.rndr := by
  unfold State.link State.wrRz; split <;> rfl
@[simp] theorem State.link_z : (s.link).z = s.z := by
  unfold State.link State.wrRz; split <;> rfl
@[simp] theorem State.link_p : (s.link).p = s.p := by
  unfold State.link State.wrRz; split <;> rfl
@[simp] theorem State.link_mem : (s.link).mem = s.mem := by
  unfold State.link State.wrRz; split <;> rfl
@[simp] theorem State.link_localMonitor : (s.link).localMonitor = s.localMonitor := by
  unfold State.link State.wrRz; split <;> rfl
@[simp] theorem State.link_globalMonitor : (s.link).globalMonitor = s.globalMonitor := by
  unfold State.link State.wrRz; split <;> rfl
@[simp] theorem State.link_btype : (s.link).btype = s.btype := by
  unfold State.link State.wrRz; split <;> rfl
@[simp] theorem State.link_btypeNext : (s.link).btypeNext = s.btypeNext := by
  unfold State.link State.wrRz; split <;> rfl
@[simp] theorem State.link_movprfx : (s.link).movprfx = s.movprfx := by
  unfold State.link State.wrRz; split <;> rfl
@[simp] theorem State.link_status : (s.link).status = s.status := by
  unfold State.link State.wrRz; split <;> rfl
@[simp] theorem State.link_features : (s.link).features = s.features := by
  unfold State.link State.wrRz; split <;> rfl
@[simp] theorem State.link_freeCount : (s.link).freeCount = s.freeCount := by
  unfold State.link State.wrRz; split <;> rfl
@[simp] theorem State.link_platform : (s.link).platform = s.platform := by
  unfold State.link State.wrRz; split <;> rfl

/-! ### setBTypeNext -/

@[simp] theorem State.setBTypeNext_x (b : BType) : (s.setBTypeNext b).x = s.x := rfl
@[simp] theorem State.setBTypeNext_sp (b : BType) : (s.setBTypeNext b).sp = s.sp := rfl
@[simp] theorem State.setBTypeNext_pc (b : BType) : (s.setBTypeNext b).pc = s.pc := rfl
@[simp] theorem State.setBTypeNext_pcModified (b : BType) : (s.setBTypeNext b).pcModified = s.pcModified := rfl
@[simp] theorem State.setBTypeNext_nzcv (b : BType) : (s.setBTypeNext b).nzcv = s.nzcv := rfl
@[simp] theorem State.setBTypeNext_fpcr (b : BType) : (s.setBTypeNext b).fpcr = s.fpcr := rfl
@[simp] theorem State.setBTypeNext_rndr (b : BType) : (s.setBTypeNext b).rndr = s.rndr := rfl
@[simp] theorem State.setBTypeNext_z (b : BType) : (s.setBTypeNext b).z = s.z := rfl
@[simp] theorem State.setBTypeNext_p (b : BType) : (s.setBTypeNext b).p = s.p := rfl
@[simp] theorem State.setBTypeNext_mem (b : BType) : (s.setBTypeNext b).mem = s.mem := rfl
@[simp] theorem State.setBTypeNext_localMonitor (b : BType) : (s.setBTypeNext b).localMonitor = s.localMonitor := rfl
@[simp] theorem State.setBTypeNext_globalMonitor (b : BType) : (s.setBTypeNext b).globalMonitor = s.globalMonitor := rfl
@[simp] theorem State.setBTypeNext_btype (b : BType) : (s.setBTypeNext b).btype = s.btype := rfl
@[simp] theorem State.setBTypeNext_btypeNext (b : BType) : (s.setBTypeNext b).btypeNext = b := rfl
@[simp] theorem State.setBTypeNext_movprfx (b : BType) : (s.setBTypeNext b).movprfx = s.movprfx := rfl
@[simp] theorem State.setBTypeNext_status (b : BType) : (s.setBTypeNext b).status = s.status := rfl
@[simp] theorem State.setBTypeNext_features (b : BType) : (s.setBTypeNext b).features = s.features := rfl
@[simp] theorem State.setBTypeNext_freeCount (b : BType) : (s.setBTypeNext b).freeCount = s.freeCount := rfl
@[simp] theorem State.setBTypeNext_platform (b : BType) : (s.setBTypeNext b).platform = s.platform := rfl

/-! ### memWrite -/

@[simp] theorem State.memWrite_x {w : Nat} (a : Word) (n : Nat) (v : BitVec w) : (s.memWrite a n v).x = s.x := rfl
@[simp] theorem State.memWrite_sp {w : Nat} (a : Word) (n : Nat) (v : BitVec w) : (s.memWrite a n v).sp = s.sp := rfl
@[simp] theorem State.memWrite_pc {w : Nat} (a : Word) (n : Nat) (v : BitVec w) : (s.memWrite a n v).pc = s.pc := rfl
@[simp] theorem State.memWrite_pcModified {w : Nat} (a : Word) (n : Nat) (v : BitVec w) : (s.memWrite a n v).pcModified = s.pcModified := rfl
@[simp] theorem State.memWrite_nzcv {w : Nat} (a : Word) (n : Nat) (v : BitVec w) : (s.memWrite a n v).nzcv = s.nzcv := rfl
@[simp] theorem State.memWrite_fpcr {w : Nat} (a : Word) (n : Nat) (v : BitVec w) : (s.memWrite a n v).fpcr = s.fpcr := rfl
@[simp] theorem State.memWrite_rndr {w : Nat} (a : Word) (n : Nat) (v : BitVec w) : (s.memWrite a n v).rndr = s.rndr := rfl
@[simp] theorem State.memWrite_z {w : Nat} (a : Word) (n : Nat) (v : BitVec w) : (s.memWrite a n v).z = s.z := rfl
@[simp] theorem State.memWrite_p {w : Nat} (a : Word) (n : Nat) (v : BitVec w) : (s.memWrite a n v).p = s.p := rfl
@[simp] theorem State.memWrite_mem {w : Nat} (a : Word) (n : Nat) (v : BitVec w) : (s.memWrite a n v).mem = Memory.write s.mem a v n := rfl
@[simp] theorem State.memWrite_localMonitor {w : Nat} (a : Word) (n : Nat) (v : BitVec w) : (s.memWrite a n v).localMonitor = s.localMonitor := rfl
@[simp] theorem State.memWrite_globalMonitor {w : Nat} (a : Word) (n : Nat) (v : BitVec w) : (s.memWrite a n v).globalMonitor = s.globalMonitor := rfl
@[simp] theorem State.memWrite_btype {w : Nat} (a : Word) (n : Nat) (v : BitVec w) : (s.memWrite a n v).btype = s.btype := rfl
@[simp] theorem State.memWrite_btypeNext {w : Nat} (a : Word) (n : Nat) (v : BitVec w) : (s.memWrite a n v).btypeNext = s.btypeNext := rfl
@[simp] theorem State.memWrite_movprfx {w : Nat} (a : Word) (n : Nat) (v : BitVec w) : (s.memWrite a n v).movprfx = s.movprfx := rfl
@[simp] theorem State.memWrite_status {w : Nat} (a : Word) (n : Nat) (v : BitVec w) : (s.memWrite a n v).status = s.status := rfl
@[simp] theorem State.memWrite_features {w : Nat} (a : Word) (n : Nat) (v : BitVec w) : (s.memWrite a n v).features = s.features := rfl
@[simp] theorem State.memWrite_freeCount {w : Nat} (a : Word) (n : Nat) (v : BitVec w) : (s.memWrite a n v).freeCount = s.freeCount := rfl
@[simp] theorem State.memWrite_platform {w : Nat} (a : Word) (n : Nat) (v : BitVec w) : (s.memWrite a n v).platform = s.platform := rfl

/-! ### clearLocal -/

@[simp] theorem State.clearLocal_x : (s.clearLocal).x = s.x := rfl
@[simp] theorem State.clearLocal_sp : (s.clearLocal).sp = s.sp := rfl
@[simp] theorem State.clearLocal_pc : (s.clearLocal).pc = s.pc := rfl
@[simp] theorem State.clearLocal_pcModified : (s.clearLocal).pcModified = s.pcModified := rfl
@[simp] theorem State.clearLocal_nzcv : (s.clearLocal).nzcv = s.nzcv := rfl
@[simp] theorem State.clearLocal_fpcr : (s.clearLocal).fpcr = s.fpcr := rfl
@[simp] theorem State.clearLocal_rndr : (s.clearLocal).rndr = s.rndr := rfl
@[simp] theorem State.clearLocal_z : (s.clearLocal).z = s.z := rfl
@[simp] theorem State.clearLocal_p : (s.clearLocal).p = s.p := rfl
@[simp] theorem State.clearLocal_mem : (s.clearLocal).mem = s.mem := rfl
@[simp] theorem State.clearLocal_localMonitor : (s.clearLocal).localMonitor = none := rfl
@[simp] theorem State.clearLocal_globalMonitor : (s.clearLocal).globalMonitor = s.globalMonitor := rfl
@[simp] theorem State.clearLocal_btype : (s.clearLocal).btype = s.btype := rfl
@[simp] theorem State.clearLocal_btypeNext : (s.clearLocal).btypeNext = s.btypeNext := rfl
@[simp] theorem State.clearLocal_movprfx : (s.clearLocal).movprfx = s.movprfx := rfl
@[simp] theorem State.clearLocal_status : (s.clearLocal).status = s.status := rfl
@[simp] theorem State.clearLocal_features : (s.clearLocal).features = s.features := rfl
@[simp] theorem State.clearLocal_freeCount : (s.clearLocal).freeCount = s.freeCount := rfl
@[simp] theorem State.clearLocal_platform : (s.clearLocal).platform = s.platform := rfl

/-! ### store -/

@[simp] theorem State.store_x {w : Nat} (a : Word) (n : Nat) (v : BitVec w) : (s.store a n v).x = s.x := rfl
@[simp] theorem State.store_sp {w : Nat} (a : Word) (n : Nat) (v : BitVec w) : (s.store a n v).sp = s.sp := rfl
@[simp] theorem State.store_pc {w : Nat} (a : Word) (n : Nat) (v : BitVec w) : (s.store a n v).pc = s.pc := rfl
@[simp] theorem State.store_pcModified {w : Nat} (a : Word) (n : Nat) (v : BitVec w) : (s.store a n v).pcModified = s.pcModified := rfl
@[simp] theorem State.store_nzcv {w : Nat} (a : Word) (n : Nat) (v : BitVec w) : (s.store a n v).nzcv = s.nzcv := rfl
@[simp] theorem State.store_fpcr {w : Nat} (a : Word) (n : Nat) (v : BitVec w) : (s.store a n v).fpcr = s.fpcr := rfl
@[simp] theorem State.store_rndr {w : Nat} (a : Word) (n : Nat) (v : BitVec w) : (s.store a n v).rndr = s.rndr := rfl
@[simp] theorem State.store_z {w : Nat} (a : Word) (n : Nat) (v : BitVec w) : (s.store a n v).z = s.z := rfl
@[simp] theorem State.store_p {w : Nat} (a : Word) (n : Nat) (v : BitVec w) : (s.store a n v).p = s.p := rfl
@[simp] theorem State.store_mem {w : Nat} (a : Word) (n : Nat) (v : BitVec w) : (s.store a n v).mem = Memory.write s.mem a v n := rfl
@[simp] theorem State.store_localMonitor {w : Nat} (a : Word) (n : Nat) (v : BitVec w) : (s.store a n v).localMonitor = none := rfl
@[simp] theorem State.store_globalMonitor {w : Nat} (a : Word) (n : Nat) (v : BitVec w) : (s.store a n v).globalMonitor = s.globalMonitor := rfl
@[simp] theorem State.store_btype {w : Nat} (a : Word) (n : Nat) (v : BitVec w) : (s.store a n v).btype = s.btype := rfl
@[simp] theorem State.store_btypeNext {w : Nat} (a : Word) (n : Nat) (v : BitVec w) : (s.store a n v).btypeNext = s.btypeNext := rfl
@[simp] theorem State.store_movprfx {w : Nat} (a : Word) (n : Nat) (v : BitVec w) : (s.store a n v).movprfx = s.movprfx := rfl
@[simp] theorem State.store_status {w : Nat} (a : Word) (n : Nat) (v : BitVec w) : (s.store a n v).status = s.status := rfl
@[simp] theorem State.store_features {w : Nat} (a : Word) (n : Nat) (v : BitVec w) : (s.store a n v).features = s.features := rfl
@[simp] theorem State.store_freeCount {w : Nat} (a : Word) (n : Nat) (v : BitVec w) : (s.store a n v).freeCount = s.freeCount := rfl
@[simp] theorem State.store_platform {w : Nat} (a : Word) (n : Nat) (v : BitVec w) : (s.store a n v).platform = s.platform := rfl

/-! ### markExclusive -/

@[simp] theorem State.markExclusive_x (a : Word) (n : Nat) : (s.markExclusive a n).x = s.x := rfl
@[simp] theorem State.markExclusive_sp (a : Word) (n : Nat) : (s.markExclusive a n).sp = s.sp := rfl
@[simp] theorem State.markExclusive_pc (a : Word) (n : Nat) : (s.markExclusive a n).pc = s.pc := rfl
@[simp] theorem State.markExclusive_pcModified (a : Word) (n : Nat) : (s.markExclusive a n).pcModified = s.pcModified := rfl
@[simp] theorem State.markExclusive_nzcv (a : Word) (n : Nat) : (s.markExclusive a n).nzcv = s.nzcv := rfl
@[simp] theorem State.markExclusive_fpcr (a : Word) (n : Nat) : (s.markExclusive a n).fpcr = s.fpcr := rfl
@[simp] theorem State.markExclusive_rndr (a : Word) (n : Nat) : (s.markExclusive a n).rndr = s.rndr := rfl
@[simp] theorem State.markExclusive_z (a : Word) (n : Nat) : (s.markExclusive a n).z = s.z := rfl
@[simp] theorem State.markExclusive_p (a : Word) (n : Nat) : (s.markExclusive a n).p = s.p := rfl
@[simp] theorem State.markExclusive_mem (a : Word) (n : Nat) : (s.markExclusive a n).mem = s.mem := rfl
@[simp] theorem State.markExclusive_localMonitor (a : Word) (n : Nat) : (s.markExclusive a n).localMonitor = some { addr := a.toNat, size := n } := rfl
@[simp] theorem State.markExclusive_globalMonitor (a : Word) (n : Nat) : (s.markExclusive a n).globalMonitor = some { addr := a.toNat, size := n } := rfl
@[simp] theorem State.markExclusive_btype (a : Word) (n : Nat) : (s.markExclusive a n).btype = s.btype := rfl
@[simp] theorem State.markExclusive_btypeNext (a : Word) (n : Nat) : (s.markExclusive a n).btypeNext = s.btypeNext := rfl
@[simp] theorem State.markExclusive_movprfx (a : Word) (n : Nat) : (s.markExclusive a n).movprfx = s.movprfx := rfl
@[simp] theorem State.markExclusive_status (a : Word) (n : Nat) : (s.markExclusive a n).status = s.status := rfl
@[simp] theorem State.markExclusive_features (a : Word) (n : Nat) : (s.markExclusive a n).features = s.features := rfl
@[simp] theorem State.markExclusive_freeCount (a : Word) (n : Nat) : (s.markExclusive a n).freeCount = s.freeCount := rfl
@[simp] theorem State.markExclusive_platform (a : Word) (n : Nat) : (s.markExclusive a n).platform = s.platform := rfl

/-! ### drawn -/

@[simp] theorem State.drawn_x : (s.drawn).x = s.x := rfl
@[simp] theorem State.drawn_sp : (s.drawn).sp = s.sp := rfl
@[simp] theorem State.drawn_pc : (s.drawn).pc = s.pc := rfl
@[simp] theorem State.drawn_pcModified : (s.drawn).pcModified = s.pcModified := rfl
@[simp] theorem State.drawn_nzcv : (s.drawn).nzcv = s.nzcv := rfl
@[simp] theorem State.drawn_fpcr : (s.drawn).fpcr = s.fpcr := rfl
@[simp] theorem State.drawn_rndr : (s.drawn).rndr = s.rndr := rfl
@[simp] theorem State.drawn_z : (s.drawn).z = s.z := rfl
@[simp] theorem State.drawn_p : (s.drawn).p = s.p := rfl
@[simp] theorem State.drawn_mem : (s.drawn).mem = s.mem := rfl
@[simp] theorem State.drawn_localMonitor : (s.drawn).localMonitor = s.localMonitor := rfl
@[simp] theorem State.drawn_globalMonitor : (s.drawn).globalMonitor = s.globalMonitor := rfl
@[simp] theorem State.drawn_btype : (s.drawn).btype = s.btype := rfl
@[simp] theorem State.drawn_btypeNext : (s.drawn).btypeNext = s.btypeNext := rfl
@[simp] theorem State.drawn_movprfx : (s.drawn).movprfx = s.movprfx := rfl
@[simp] theorem State.drawn_status : (s.drawn).status = s.status := rfl
@[simp] theorem State.drawn_features : (s.drawn).features = s.features := rfl
@[simp] theorem State.drawn_freeCount : (s.drawn).freeCount = s.freeCount + 1 := rfl
@[simp] theorem State.drawn_platform : (s.drawn).platform = s.platform := rfl

/-! ### drawnBy -/

@[simp] theorem State.drawnBy_x (n : Nat) : (s.drawnBy n).x = s.x := rfl
@[simp] theorem State.drawnBy_sp (n : Nat) : (s.drawnBy n).sp = s.sp := rfl
@[simp] theorem State.drawnBy_pc (n : Nat) : (s.drawnBy n).pc = s.pc := rfl
@[simp] theorem State.drawnBy_pcModified (n : Nat) : (s.drawnBy n).pcModified = s.pcModified := rfl
@[simp] theorem State.drawnBy_nzcv (n : Nat) : (s.drawnBy n).nzcv = s.nzcv := rfl
@[simp] theorem State.drawnBy_fpcr (n : Nat) : (s.drawnBy n).fpcr = s.fpcr := rfl
@[simp] theorem State.drawnBy_rndr (n : Nat) : (s.drawnBy n).rndr = s.rndr := rfl
@[simp] theorem State.drawnBy_z (n : Nat) : (s.drawnBy n).z = s.z := rfl
@[simp] theorem State.drawnBy_p (n : Nat) : (s.drawnBy n).p = s.p := rfl
@[simp] theorem State.drawnBy_mem (n : Nat) : (s.drawnBy n).mem = s.mem := rfl
@[simp] theorem State.drawnBy_localMonitor (n : Nat) : (s.drawnBy n).localMonitor = s.localMonitor := rfl
@[simp] theorem State.drawnBy_globalMonitor (n : Nat) : (s.drawnBy n).globalMonitor = s.globalMonitor := rfl
@[simp] theorem State.drawnBy_btype (n : Nat) : (s.drawnBy n).btype = s.btype := rfl
@[simp] theorem State.drawnBy_btypeNext (n : Nat) : (s.drawnBy n).btypeNext = s.btypeNext := rfl
@[simp] theorem State.drawnBy_movprfx (n : Nat) : (s.drawnBy n).movprfx = s.movprfx := rfl
@[simp] theorem State.drawnBy_status (n : Nat) : (s.drawnBy n).status = s.status := rfl
@[simp] theorem State.drawnBy_features (n : Nat) : (s.drawnBy n).features = s.features := rfl
@[simp] theorem State.drawnBy_freeCount (n : Nat) : (s.drawnBy n).freeCount = s.freeCount + n := rfl
@[simp] theorem State.drawnBy_platform (n : Nat) : (s.drawnBy n).platform = s.platform := rfl

/-! ### wrZ -/

@[simp] theorem State.wrZ_x (i : RegNum) (v : BitVec 2048) : (s.wrZ i v).x = s.x := rfl
@[simp] theorem State.wrZ_sp (i : RegNum) (v : BitVec 2048) : (s.wrZ i v).sp = s.sp := rfl
@[simp] theorem State.wrZ_pc (i : RegNum) (v : BitVec 2048) : (s.wrZ i v).pc = s.pc := rfl
@[simp] theorem State.wrZ_pcModified (i : RegNum) (v : BitVec 2048) : (s.wrZ i v).pcModified = s.pcModified := rfl
@[simp] theorem State.wrZ_nzcv (i : RegNum) (v : BitVec 2048) : (s.wrZ i v).nzcv = s.nzcv := rfl
@[simp] theorem State.wrZ_fpcr (i : RegNum) (v : BitVec 2048) : (s.wrZ i v).fpcr = s.fpcr := rfl
@[simp] theorem State.wrZ_rndr (i : RegNum) (v : BitVec 2048) : (s.wrZ i v).rndr = s.rndr := rfl
@[simp] theorem State.wrZ_p (i : RegNum) (v : BitVec 2048) : (s.wrZ i v).p = s.p := rfl
@[simp] theorem State.wrZ_mem (i : RegNum) (v : BitVec 2048) : (s.wrZ i v).mem = s.mem := rfl
@[simp] theorem State.wrZ_localMonitor (i : RegNum) (v : BitVec 2048) : (s.wrZ i v).localMonitor = s.localMonitor := rfl
@[simp] theorem State.wrZ_globalMonitor (i : RegNum) (v : BitVec 2048) : (s.wrZ i v).globalMonitor = s.globalMonitor := rfl
@[simp] theorem State.wrZ_btype (i : RegNum) (v : BitVec 2048) : (s.wrZ i v).btype = s.btype := rfl
@[simp] theorem State.wrZ_btypeNext (i : RegNum) (v : BitVec 2048) : (s.wrZ i v).btypeNext = s.btypeNext := rfl
@[simp] theorem State.wrZ_movprfx (i : RegNum) (v : BitVec 2048) : (s.wrZ i v).movprfx = s.movprfx := rfl
@[simp] theorem State.wrZ_status (i : RegNum) (v : BitVec 2048) : (s.wrZ i v).status = s.status := rfl
@[simp] theorem State.wrZ_features (i : RegNum) (v : BitVec 2048) : (s.wrZ i v).features = s.features := rfl
@[simp] theorem State.wrZ_freeCount (i : RegNum) (v : BitVec 2048) : (s.wrZ i v).freeCount = s.freeCount := rfl
@[simp] theorem State.wrZ_platform (i : RegNum) (v : BitVec 2048) : (s.wrZ i v).platform = s.platform := rfl

/-! ### wrP -/

@[simp] theorem State.wrP_x (i : BitVec 4) (v : BitVec 256) : (s.wrP i v).x = s.x := rfl
@[simp] theorem State.wrP_sp (i : BitVec 4) (v : BitVec 256) : (s.wrP i v).sp = s.sp := rfl
@[simp] theorem State.wrP_pc (i : BitVec 4) (v : BitVec 256) : (s.wrP i v).pc = s.pc := rfl
@[simp] theorem State.wrP_pcModified (i : BitVec 4) (v : BitVec 256) : (s.wrP i v).pcModified = s.pcModified := rfl
@[simp] theorem State.wrP_nzcv (i : BitVec 4) (v : BitVec 256) : (s.wrP i v).nzcv = s.nzcv := rfl
@[simp] theorem State.wrP_fpcr (i : BitVec 4) (v : BitVec 256) : (s.wrP i v).fpcr = s.fpcr := rfl
@[simp] theorem State.wrP_rndr (i : BitVec 4) (v : BitVec 256) : (s.wrP i v).rndr = s.rndr := rfl
@[simp] theorem State.wrP_z (i : BitVec 4) (v : BitVec 256) : (s.wrP i v).z = s.z := rfl
@[simp] theorem State.wrP_mem (i : BitVec 4) (v : BitVec 256) : (s.wrP i v).mem = s.mem := rfl
@[simp] theorem State.wrP_localMonitor (i : BitVec 4) (v : BitVec 256) : (s.wrP i v).localMonitor = s.localMonitor := rfl
@[simp] theorem State.wrP_globalMonitor (i : BitVec 4) (v : BitVec 256) : (s.wrP i v).globalMonitor = s.globalMonitor := rfl
@[simp] theorem State.wrP_btype (i : BitVec 4) (v : BitVec 256) : (s.wrP i v).btype = s.btype := rfl
@[simp] theorem State.wrP_btypeNext (i : BitVec 4) (v : BitVec 256) : (s.wrP i v).btypeNext = s.btypeNext := rfl
@[simp] theorem State.wrP_movprfx (i : BitVec 4) (v : BitVec 256) : (s.wrP i v).movprfx = s.movprfx := rfl
@[simp] theorem State.wrP_status (i : BitVec 4) (v : BitVec 256) : (s.wrP i v).status = s.status := rfl
@[simp] theorem State.wrP_features (i : BitVec 4) (v : BitVec 256) : (s.wrP i v).features = s.features := rfl
@[simp] theorem State.wrP_freeCount (i : BitVec 4) (v : BitVec 256) : (s.wrP i v).freeCount = s.freeCount := rfl
@[simp] theorem State.wrP_platform (i : BitVec 4) (v : BitVec 256) : (s.wrP i v).platform = s.platform := rfl

/-! ### begin -/

@[simp] theorem State.begin_x : (s.begin).x = s.x := rfl
@[simp] theorem State.begin_sp : (s.begin).sp = s.sp := rfl
@[simp] theorem State.begin_pc : (s.begin).pc = s.pc := rfl
@[simp] theorem State.begin_pcModified : (s.begin).pcModified = false := rfl
@[simp] theorem State.begin_nzcv : (s.begin).nzcv = s.nzcv := rfl
@[simp] theorem State.begin_fpcr : (s.begin).fpcr = s.fpcr := rfl
@[simp] theorem State.begin_rndr : (s.begin).rndr = s.rndr := rfl
@[simp] theorem State.begin_z : (s.begin).z = s.z := rfl
@[simp] theorem State.begin_p : (s.begin).p = s.p := rfl
@[simp] theorem State.begin_mem : (s.begin).mem = s.mem := rfl
@[simp] theorem State.begin_localMonitor : (s.begin).localMonitor = s.localMonitor := rfl
@[simp] theorem State.begin_globalMonitor : (s.begin).globalMonitor = s.globalMonitor := rfl
@[simp] theorem State.begin_btype : (s.begin).btype = s.btype := rfl
@[simp] theorem State.begin_btypeNext : (s.begin).btypeNext = s.btypeNext := rfl
@[simp] theorem State.begin_movprfx : (s.begin).movprfx = s.movprfx := rfl
@[simp] theorem State.begin_status : (s.begin).status = s.status := rfl
@[simp] theorem State.begin_features : (s.begin).features = s.features := rfl
@[simp] theorem State.begin_freeCount : (s.begin).freeCount = s.freeCount := rfl
@[simp] theorem State.begin_platform : (s.begin).platform = s.platform := rfl

/-! ### retire -/

@[simp] theorem State.retire_x (m : Bool) : (s.retire m).x = s.x := rfl
@[simp] theorem State.retire_sp (m : Bool) : (s.retire m).sp = s.sp := rfl
@[simp] theorem State.retire_pc (m : Bool) : (s.retire m).pc = if s.pcModified then s.pc else s.pc + 4#64 := rfl
@[simp] theorem State.retire_pcModified (m : Bool) : (s.retire m).pcModified = s.pcModified := rfl
@[simp] theorem State.retire_nzcv (m : Bool) : (s.retire m).nzcv = s.nzcv := rfl
@[simp] theorem State.retire_fpcr (m : Bool) : (s.retire m).fpcr = s.fpcr := rfl
@[simp] theorem State.retire_rndr (m : Bool) : (s.retire m).rndr = s.rndr := rfl
@[simp] theorem State.retire_z (m : Bool) : (s.retire m).z = s.z := rfl
@[simp] theorem State.retire_p (m : Bool) : (s.retire m).p = s.p := rfl
@[simp] theorem State.retire_mem (m : Bool) : (s.retire m).mem = s.mem := rfl
@[simp] theorem State.retire_localMonitor (m : Bool) : (s.retire m).localMonitor = s.localMonitor := rfl
@[simp] theorem State.retire_globalMonitor (m : Bool) : (s.retire m).globalMonitor = s.globalMonitor := rfl
@[simp] theorem State.retire_btype (m : Bool) : (s.retire m).btype = s.btypeNext := rfl
@[simp] theorem State.retire_btypeNext (m : Bool) : (s.retire m).btypeNext = .default := rfl
@[simp] theorem State.retire_movprfx (m : Bool) : (s.retire m).movprfx = m := rfl
@[simp] theorem State.retire_status (m : Bool) : (s.retire m).status = s.status := rfl
@[simp] theorem State.retire_features (m : Bool) : (s.retire m).features = s.features := rfl
@[simp] theorem State.retire_freeCount (m : Bool) : (s.retire m).freeCount = s.freeCount := rfl
@[simp] theorem State.retire_platform (m : Bool) : (s.retire m).platform = s.platform := rfl

/-! ### resetOf -/

@[simp] theorem State.resetOf_x : (s.resetOf).x = (State.resetWith s.platform).x := by unfold State.resetOf; rfl
@[simp] theorem State.resetOf_sp : (s.resetOf).sp = (State.resetWith s.platform).sp := by unfold State.resetOf; rfl
@[simp] theorem State.resetOf_pc : (s.resetOf).pc = s.pc := by unfold State.resetOf; rfl
@[simp] theorem State.resetOf_pcModified : (s.resetOf).pcModified = (State.resetWith s.platform).pcModified := by unfold State.resetOf; rfl
@[simp] theorem State.resetOf_nzcv : (s.resetOf).nzcv = (State.resetWith s.platform).nzcv := by unfold State.resetOf; rfl
@[simp] theorem State.resetOf_fpcr : (s.resetOf).fpcr = (State.resetWith s.platform).fpcr := by unfold State.resetOf; rfl
@[simp] theorem State.resetOf_rndr : (s.resetOf).rndr = (State.resetWith s.platform).rndr := by unfold State.resetOf; rfl
@[simp] theorem State.resetOf_z : (s.resetOf).z = (State.resetWith s.platform).z := by unfold State.resetOf; rfl
@[simp] theorem State.resetOf_p : (s.resetOf).p = (State.resetWith s.platform).p := by unfold State.resetOf; rfl
@[simp] theorem State.resetOf_mem : (s.resetOf).mem = s.mem := by unfold State.resetOf; rfl
@[simp] theorem State.resetOf_localMonitor : (s.resetOf).localMonitor = (State.resetWith s.platform).localMonitor := by unfold State.resetOf; rfl
@[simp] theorem State.resetOf_globalMonitor : (s.resetOf).globalMonitor = (State.resetWith s.platform).globalMonitor := by unfold State.resetOf; rfl
@[simp] theorem State.resetOf_btype : (s.resetOf).btype = (State.resetWith s.platform).btype := by unfold State.resetOf; rfl
@[simp] theorem State.resetOf_btypeNext : (s.resetOf).btypeNext = (State.resetWith s.platform).btypeNext := by unfold State.resetOf; rfl
@[simp] theorem State.resetOf_movprfx : (s.resetOf).movprfx = (State.resetWith s.platform).movprfx := by unfold State.resetOf; rfl
@[simp] theorem State.resetOf_status : (s.resetOf).status = (State.resetWith s.platform).status := by unfold State.resetOf; rfl
@[simp] theorem State.resetOf_features : (s.resetOf).features = s.features := by unfold State.resetOf; rfl
@[simp] theorem State.resetOf_freeCount : (s.resetOf).freeCount = s.freeCount := by unfold State.resetOf; rfl
@[simp] theorem State.resetOf_platform : (s.resetOf).platform = s.platform := by unfold State.resetOf; rfl

/-! ### withVl -/

@[simp] theorem State.withVl_x (vl : Nat) : (s.withVl vl).x = s.x := by unfold State.withVl; rfl
@[simp] theorem State.withVl_sp (vl : Nat) : (s.withVl vl).sp = s.sp := by unfold State.withVl; rfl
@[simp] theorem State.withVl_pc (vl : Nat) : (s.withVl vl).pc = s.pc := by unfold State.withVl; rfl
@[simp] theorem State.withVl_pcModified (vl : Nat) : (s.withVl vl).pcModified = s.pcModified := by unfold State.withVl; rfl
@[simp] theorem State.withVl_nzcv (vl : Nat) : (s.withVl vl).nzcv = s.nzcv := by unfold State.withVl; rfl
@[simp] theorem State.withVl_fpcr (vl : Nat) : (s.withVl vl).fpcr = s.fpcr := by unfold State.withVl; rfl
@[simp] theorem State.withVl_rndr (vl : Nat) : (s.withVl vl).rndr = s.rndr := by unfold State.withVl; rfl
@[simp] theorem State.withVl_z (vl : Nat) : (s.withVl vl).z = vectorsAtReset vl := by unfold State.withVl; rfl
@[simp] theorem State.withVl_p (vl : Nat) : (s.withVl vl).p = predicatesAtReset vl := by unfold State.withVl; rfl
@[simp] theorem State.withVl_mem (vl : Nat) : (s.withVl vl).mem = s.mem := by unfold State.withVl; rfl
@[simp] theorem State.withVl_localMonitor (vl : Nat) : (s.withVl vl).localMonitor = s.localMonitor := by unfold State.withVl; rfl
@[simp] theorem State.withVl_globalMonitor (vl : Nat) : (s.withVl vl).globalMonitor = s.globalMonitor := by unfold State.withVl; rfl
@[simp] theorem State.withVl_btype (vl : Nat) : (s.withVl vl).btype = s.btype := by unfold State.withVl; rfl
@[simp] theorem State.withVl_btypeNext (vl : Nat) : (s.withVl vl).btypeNext = s.btypeNext := by unfold State.withVl; rfl
@[simp] theorem State.withVl_movprfx (vl : Nat) : (s.withVl vl).movprfx = s.movprfx := by unfold State.withVl; rfl
@[simp] theorem State.withVl_status (vl : Nat) : (s.withVl vl).status = s.status := by unfold State.withVl; rfl
@[simp] theorem State.withVl_features (vl : Nat) : (s.withVl vl).features = s.features := by unfold State.withVl; rfl
@[simp] theorem State.withVl_freeCount (vl : Nat) : (s.withVl vl).freeCount = s.freeCount := by unfold State.withVl; rfl
@[simp] theorem State.withVl_platform (vl : Nat) : (s.withVl vl).platform = { s.platform with vl := vl } := by unfold State.withVl; rfl

/-! ### startRun -/

@[simp] theorem State.startRun_x (entry : Word) : (s.startRun entry).x = s.x := by unfold State.startRun; rfl
@[simp] theorem State.startRun_sp (entry : Word) : (s.startRun entry).sp = s.sp := by unfold State.startRun; rfl
@[simp] theorem State.startRun_pc (entry : Word) : (s.startRun entry).pc = entry := by unfold State.startRun; rfl
@[simp] theorem State.startRun_pcModified (entry : Word) : (s.startRun entry).pcModified = s.pcModified := by unfold State.startRun; rfl
@[simp] theorem State.startRun_nzcv (entry : Word) : (s.startRun entry).nzcv = s.nzcv := by unfold State.startRun; rfl
@[simp] theorem State.startRun_fpcr (entry : Word) : (s.startRun entry).fpcr = s.fpcr := by unfold State.startRun; rfl
@[simp] theorem State.startRun_rndr (entry : Word) : (s.startRun entry).rndr = s.rndr := by unfold State.startRun; rfl
@[simp] theorem State.startRun_z (entry : Word) : (s.startRun entry).z = s.z := by unfold State.startRun; rfl
@[simp] theorem State.startRun_p (entry : Word) : (s.startRun entry).p = s.p := by unfold State.startRun; rfl
@[simp] theorem State.startRun_mem (entry : Word) : (s.startRun entry).mem = s.mem := by unfold State.startRun; rfl
@[simp] theorem State.startRun_localMonitor (entry : Word) : (s.startRun entry).localMonitor = s.localMonitor := by unfold State.startRun; rfl
@[simp] theorem State.startRun_globalMonitor (entry : Word) : (s.startRun entry).globalMonitor = s.globalMonitor := by unfold State.startRun; rfl
@[simp] theorem State.startRun_btype (entry : Word) : (s.startRun entry).btype = s.btype := by unfold State.startRun; rfl
@[simp] theorem State.startRun_btypeNext (entry : Word) : (s.startRun entry).btypeNext = s.btypeNext := by unfold State.startRun; rfl
@[simp] theorem State.startRun_movprfx (entry : Word) : (s.startRun entry).movprfx = s.movprfx := by unfold State.startRun; rfl
@[simp] theorem State.startRun_status (entry : Word) : (s.startRun entry).status = .running := by unfold State.startRun; rfl
@[simp] theorem State.startRun_features (entry : Word) : (s.startRun entry).features = s.features := by unfold State.startRun; rfl
@[simp] theorem State.startRun_freeCount (entry : Word) : (s.startRun entry).freeCount = s.freeCount := by unfold State.startRun; rfl
@[simp] theorem State.startRun_platform (entry : Word) : (s.startRun entry).platform = s.platform := by unfold State.startRun; rfl

/-! ### takeHost -/

@[simp] theorem State.takeHost_x (t : State) : (s.takeHost t).x = t.x := by unfold State.takeHost; rfl
@[simp] theorem State.takeHost_sp (t : State) : (s.takeHost t).sp = t.sp := by unfold State.takeHost; rfl
@[simp] theorem State.takeHost_pc (t : State) : (s.takeHost t).pc = s.pc := by unfold State.takeHost; rfl
@[simp] theorem State.takeHost_pcModified (t : State) : (s.takeHost t).pcModified = s.pcModified := by unfold State.takeHost; rfl
@[simp] theorem State.takeHost_nzcv (t : State) : (s.takeHost t).nzcv = t.nzcv := by unfold State.takeHost; rfl
@[simp] theorem State.takeHost_fpcr (t : State) : (s.takeHost t).fpcr = t.fpcr := by unfold State.takeHost; rfl
@[simp] theorem State.takeHost_rndr (t : State) : (s.takeHost t).rndr = t.rndr := by unfold State.takeHost; rfl
@[simp] theorem State.takeHost_z (t : State) : (s.takeHost t).z = t.z.map (· &&& s.zMask) := by unfold State.takeHost; rfl
@[simp] theorem State.takeHost_p (t : State) : (s.takeHost t).p = t.p.map (· &&& s.pMask) := by unfold State.takeHost; rfl
@[simp] theorem State.takeHost_mem (t : State) : (s.takeHost t).mem = Memory.ofCells t.mem := by unfold State.takeHost; rfl
@[simp] theorem State.takeHost_localMonitor (t : State) : (s.takeHost t).localMonitor = t.localMonitor := by unfold State.takeHost; rfl
@[simp] theorem State.takeHost_globalMonitor (t : State) : (s.takeHost t).globalMonitor = t.globalMonitor := by unfold State.takeHost; rfl
@[simp] theorem State.takeHost_btype (t : State) : (s.takeHost t).btype = s.btype := by unfold State.takeHost; rfl
@[simp] theorem State.takeHost_btypeNext (t : State) : (s.takeHost t).btypeNext = s.btypeNext := by unfold State.takeHost; rfl
@[simp] theorem State.takeHost_movprfx (t : State) : (s.takeHost t).movprfx = s.movprfx := by unfold State.takeHost; rfl
@[simp] theorem State.takeHost_status (t : State) : (s.takeHost t).status = s.status := by unfold State.takeHost; rfl
@[simp] theorem State.takeHost_features (t : State) : (s.takeHost t).features = t.features := by unfold State.takeHost; rfl
@[simp] theorem State.takeHost_freeCount (t : State) : (s.takeHost t).freeCount = s.freeCount := by unfold State.takeHost; rfl
@[simp] theorem State.takeHost_platform (t : State) : (s.takeHost t).platform = s.platform := by unfold State.takeHost; rfl

/-! ### What reads depend on -/

@[simp] theorem State.link_eq : s.link = s.wrRz 30#5 (s.pc + 4#64) := rfl

theorem State.xReg_congr {s t : State} (h : t.x = s.x) (j : Nat) : t.xReg j = s.xReg j := by
  unfold State.xReg; rw [h]

theorem State.rz_congr {s t : State} (h : t.x = s.x) (n : Nat) (i : RegNum) : t.rz n i = s.rz n i := by
  unfold State.rz; rw [State.xReg_congr h]

theorem State.byteAt_congr {s t : State} (h : t.mem = s.mem) (a : Nat) : t.byteAt a = s.byteAt a := by
  unfold State.byteAt; rw [h]

theorem State.memRead_congr {s t : State} (h : t.mem = s.mem) (a : Word) (n : Nat) : t.memRead a n = s.memRead a n := by
  unfold State.memRead; rw [h]

theorem State.zReg_congr {s t : State} (h : t.z = s.z) (i : RegNum) : t.zReg i = s.zReg i := by
  unfold State.zReg; rw [h]

theorem State.pReg_congr {s t : State} (h : t.p = s.p) (i : BitVec 4) : t.pReg i = s.pReg i := by
  unfold State.pReg; rw [h]

/-! ### Register reads after register writes (R24 to R27) -/

theorem regNum_lt_31 {i : RegNum} (h : i ≠ 31#5) : i.toNat < 31 := by
  have h1 := i.isLt
  have h2 : i.toNat ≠ 31 := fun h3 => h (BitVec.eq_of_toNat_eq (by simpa using h3))
  omega

theorem State.xReg_setIfInBounds (x : Vector Word 31) (k j : Nat) (v : Word) (hk : k < 31) :
    (x.setIfInBounds k v)[j]?.getD 0#64 = if j = k then v else x[j]?.getD 0#64 := by
  rw [Vector.getElem?_setIfInBounds]
  by_cases h : k = j
  · subst h; simp [hk]
  · have h' : ¬ j = k := fun e => h e.symm
    simp [h, h']

theorem State.xReg_wrRz {n : Nat} (i : RegNum) (v : BitVec n) (j : Nat) :
    (s.wrRz i v).xReg j = if i ≠ 31#5 ∧ j = i.toNat then v.setWidth 64 else s.xReg j := by
  unfold State.wrRz
  by_cases h : i = 31#5
  · simp [h]
  · simp only [h, if_false, ne_eq, not_false_eq_true, true_and]
    exact State.xReg_setIfInBounds s.x _ j _ (regNum_lt_31 h)

theorem State.xReg_wrRsp {n : Nat} (i : RegNum) (v : BitVec n) (j : Nat) :
    (s.wrRsp i v).xReg j = if i ≠ 31#5 ∧ j = i.toNat then v.setWidth 64 else s.xReg j := by
  unfold State.wrRsp
  by_cases h : i = 31#5
  · simp [h, State.xReg]
  · simp only [h, if_false, ne_eq, not_false_eq_true, true_and]
    exact State.xReg_setIfInBounds s.x _ j _ (regNum_lt_31 h)

theorem State.sp_wrRsp {n : Nat} (i : RegNum) (v : BitVec n) :
    (s.wrRsp i v).sp = if i = 31#5 then v.setWidth 64 else s.sp := by
  unfold State.wrRsp; split <;> rfl

@[simp] theorem State.wrRz_31 {n : Nat} (v : BitVec n) : s.wrRz 31#5 v = s := by simp [State.wrRz]

@[simp] theorem State.rz_31 (n : Nat) : s.rz n 31#5 = 0#n := by simp [State.rz]

end Sys2Proof.Machine
end

