-- ==== Sys2Proof/Laws/Frame.lean ====
section
/-! SUPPORT. What each update of the state leaves alone, in the frames of Sys2Proof.Safety, and what a
register write does, once for all instructions. -/

namespace Sys2Proof.Machine

variable {s t u : State}

/-! ## Frames compose -/

theorem State.SameUnits.refl (s : State) : s.SameUnits s := ⟨rfl, rfl, rfl, rfl, rfl, rfl, rfl, rfl, rfl, rfl⟩

theorem State.SameUnits.trans (h : s.SameUnits t) (k : t.SameUnits u) : s.SameUnits u :=
  ⟨k.1.trans h.1, k.2.trans h.2, k.3.trans h.3, k.4.trans h.4, k.5.trans h.5, k.6.trans h.6, k.7.trans h.7,
    k.8.trans h.8, k.9.trans h.9, k.10.trans h.10⟩

theorem State.SamePc.refl (s : State) : s.SamePc s := ⟨rfl, rfl, rfl⟩

theorem State.SamePc.trans (h : s.SamePc t) (k : t.SamePc u) : s.SamePc u :=
  ⟨k.1.trans h.1, k.2.trans h.2, k.3.trans h.3⟩

/-- The same image and monitors. -/
theorem State.SameMemory.of (hm : t.mem = s.mem) (hl : t.localMonitor = s.localMonitor)
    (hg : t.globalMonitor = s.globalMonitor) : s.SameMemory t :=
  ⟨State.byteAt_congr hm, hm, hl, hg⟩

theorem State.SameMemory.refl (s : State) : s.SameMemory s := .of rfl rfl rfl

theorem State.SameMemory.trans (h : s.SameMemory t) (k : t.SameMemory u) : s.SameMemory u :=
  .of (k.2.trans h.2) (k.3.trans h.3) (k.4.trans h.4)

theorem State.SameButRegisters.refl (s : State) : s.SameButRegisters s := ⟨.refl s, .refl s, .refl s⟩

theorem State.SameButRegisters.trans (h : s.SameButRegisters t) (k : t.SameButRegisters u) :
    s.SameButRegisters u :=
  ⟨h.1.trans k.1, h.2.trans k.2, h.3.trans k.3⟩

theorem State.SameRegs.of (hx : t.x = s.x) (hs : t.sp = s.sp) : s.SameRegs t := ⟨State.xReg_congr hx, hs⟩

theorem State.SameRegs.refl (s : State) : s.SameRegs s := .of rfl rfl

/-! ## Register writes -/

theorem State.sameUnits_wrRz {n : Nat} (s : State) (i : RegNum) (v : BitVec n) : s.SameUnits (s.wrRz i v) := by
  constructor <;> simp

theorem State.samePc_wrRz {n : Nat} (s : State) (i : RegNum) (v : BitVec n) : s.SamePc (s.wrRz i v) := by
  constructor <;> simp

theorem State.sameMemory_wrRz {n : Nat} (s : State) (i : RegNum) (v : BitVec n) : s.SameMemory (s.wrRz i v) :=
  .of (by simp) (by simp) (by simp)

theorem State.sameButRegisters_wrRz {n : Nat} (s : State) (i : RegNum) (v : BitVec n) :
    s.SameButRegisters (s.wrRz i v) := ⟨s.samePc_wrRz i v, s.sameMemory_wrRz i v, s.sameUnits_wrRz i v⟩

theorem State.sameUnits_wrRsp {n : Nat} (s : State) (i : RegNum) (v : BitVec n) : s.SameUnits (s.wrRsp i v) := by
  constructor <;> simp

theorem State.samePc_wrRsp {n : Nat} (s : State) (i : RegNum) (v : BitVec n) : s.SamePc (s.wrRsp i v) := by
  constructor <;> simp

theorem State.sameMemory_wrRsp {n : Nat} (s : State) (i : RegNum) (v : BitVec n) : s.SameMemory (s.wrRsp i v) :=
  .of (by simp) (by simp) (by simp)

theorem State.sameButRegisters_wrRsp {n : Nat} (s : State) (i : RegNum) (v : BitVec n) :
    s.SameButRegisters (s.wrRsp i v) := ⟨s.samePc_wrRsp i v, s.sameMemory_wrRsp i v, s.sameUnits_wrRsp i v⟩

theorem State.sameButRegisters_setFlags (s : State) (f : Nzcv) : s.SameButRegisters (s.setFlags f) :=
  ⟨⟨rfl, rfl, rfl⟩, .of rfl rfl rfl, ⟨rfl, rfl, rfl, rfl, rfl, rfl, rfl, rfl, rfl, rfl⟩⟩

/-- A write in zero-register mode writes that register alone (R25). -/
theorem State.wroteRz_wrRz {n : Nat} (s : State) (i : RegNum) (v : BitVec n) : s.WroteRz (s.wrRz i v) i v where
  dest h := by rw [State.xReg_wrRz]; simp [h]
  others j h := by rw [State.xReg_wrRz, if_neg]; rintro ⟨h1, h2⟩; cases h <;> contradiction
  sp := by simp

/-- A write in stack-pointer mode writes that register, or SP, alone (R27). -/
theorem State.wroteRsp_wrRsp {n : Nat} (s : State) (i : RegNum) (v : BitVec n) : s.WroteRsp (s.wrRsp i v) i v where
  dest h := by rw [State.xReg_wrRsp]; simp [h]
  destSp h := by rw [State.sp_wrRsp]; simp [h]
  others j h := by rw [State.xReg_wrRsp, if_neg]; rintro ⟨h1, h2⟩; cases h <;> contradiction
  sp h := by rw [State.sp_wrRsp]; simp [h]

/-- What an instruction does whose meaning is a write in zero-register mode. -/
theorem State.onlyRz_wrRz {n : Nat} (s : State) (i : RegNum) (v : BitVec n) : s.OnlyRz (s.wrRz i v) i v :=
  ⟨s.wroteRz_wrRz i v, by simp, s.sameButRegisters_wrRz i v⟩

/-- What an instruction does whose meaning is a write in stack-pointer mode. -/
theorem State.onlyRsp_wrRsp {n : Nat} (s : State) (i : RegNum) (v : BitVec n) : s.OnlyRsp (s.wrRsp i v) i v :=
  ⟨s.wroteRsp_wrRsp i v, by simp, s.sameButRegisters_wrRsp i v⟩

/-- A write of the flags alone. -/
theorem State.onlyFlags_setFlags (s : State) (f : Nzcv) : s.OnlyFlags (s.setFlags f) f :=
  ⟨.of rfl rfl, rfl, s.sameButRegisters_setFlags f⟩

/-- What an instruction does whose meaning is a write in zero-register mode, then of the flags. -/
theorem State.rzAndFlags {n : Nat} (s : State) (i : RegNum) (v : BitVec n) (f : Nzcv) :
    s.RzAndFlags ((s.wrRz i v).setFlags f) i v f where
  left := ⟨(s.wroteRz_wrRz i v).1, (s.wroteRz_wrRz i v).2, by simp⟩
  right := ⟨rfl, (s.sameButRegisters_wrRz i v).trans (State.sameButRegisters_setFlags _ f)⟩

/-- A write of the same 64 bits by another width: W writes are zero-extended (R23). -/
theorem State.WroteRz.widen {n m : Nat} {rd : RegNum} {v : BitVec n} {w : BitVec m} (h : s.WroteRz t rd v)
    (e : v.setWidth 64 = w.setWidth 64) : s.WroteRz t rd w :=
  ⟨fun k => (h.dest k).trans e, h.others, h.sp⟩

/-! ## Branches -/

/-- A branch writes PC alone (R321). -/
theorem State.branched_branchTo (s : State) (a : Word) : s.Branched (s.branchTo a) a :=
  ⟨rfl, rfl, rfl, rfl, .of rfl rfl rfl, ⟨rfl, rfl, rfl, rfl, rfl, rfl, rfl, rfl, rfl, rfl⟩⟩

/-! ## Stores -/

/-- A write to memory stores its bytes and no other (R63). -/
theorem State.stored_memWrite {w : Nat} (s : State) (a : Word) (n : Nat) (v : BitVec w)
    (hm : Memory.wf s.mem = true) (hn : n ≤ 2 ^ 64) : s.Stored (s.memWrite a n v) a n v where
  bytes _ hk := Memory.get_write hm a v hn hk
  others b hb := Memory.get_write_of_ne s.mem a v n b hb

/-- A non-exclusive store leaves all but memory and the local monitor (R79). -/
theorem State.sameButMemory_store {w : Nat} (s : State) (a : Word) (n : Nat) (v : BitVec w) :
    s.SameButMemory (s.store a n v) :=
  ⟨⟨rfl, rfl, rfl⟩, rfl, ⟨rfl, rfl, rfl, rfl, rfl, rfl, rfl, rfl, rfl, rfl⟩⟩

/-- Storing depends on memory alone. -/
theorem State.Stored.congr {w : Nat} {a : Word} {n : Nat} {v : BitVec w} (h : s.Stored t a n v)
    (hs : u.mem = t.mem) : s.Stored u a n v :=
  ⟨fun k hk => (State.byteAt_congr hs _).trans (h.bytes k hk), fun b hb => (State.byteAt_congr hs _).trans (h.others b hb)⟩

end Sys2Proof.Machine
end

