-- ==== Sys2Proof/Laws/Predicates.lean ====
section
/-! SUPPORT. Predicate registers: writes and reads, the flags of a predicate test, the predicate built
from its elements, and the prefix rule of WHILE. -/

namespace Sys2Proof.Machine

/-- A write of a vector register, cut to VL bits, changes that register alone. -/
theorem State.zReg_wrZ (s : State) (i j : RegNum) (v : BitVec 2048) :
    (s.wrZ i v).zReg j = if j = i then v &&& s.zMask else s.zReg j := by
  simp only [State.wrZ, State.zReg]
  rw [Vector.getElem?_setIfInBounds]
  by_cases h : i.toNat = j.toNat
  · have : j = i := BitVec.eq_of_toNat_eq h.symm
    simp [this, i.isLt]
  · have : ¬ j = i := fun e => h (by rw [e])
    simp [h, this]

/-- A write of a predicate register, cut to VL/8 bits, changes that register alone. -/
theorem State.pReg_wrP (s : State) (i j : BitVec 4) (v : BitVec 256) :
    (s.wrP i v).pReg j = if j = i then v &&& s.pMask else s.pReg j := by
  simp only [State.wrP, State.pReg]
  rw [Vector.getElem?_setIfInBounds]
  by_cases h : i.toNat = j.toNat
  · have : j = i := BitVec.eq_of_toNat_eq h.symm
    simp [this, i.isLt]
  · have : ¬ j = i := fun e => h (by rw [e])
    simp [h, this]

/-- A vector register as reset leaves it (R50). -/
theorem getElem_vectorsAtReset (vl : Nat) (i : RegNum) :
    (vectorsAtReset vl)[i.toNat]?.getD 0#2048 = Config.vregReset i.toNat &&& (BitVec.allOnes vl).setWidth 2048 := by
  have h : i.toNat < 32 := i.isLt
  simp [vectorsAtReset, h]

/-- A predicate register as reset leaves it (R50). -/
theorem getElem_predicatesAtReset (vl : Nat) (i : BitVec 4) :
    (predicatesAtReset vl)[i.toNat]?.getD 0#256 =
      Config.pregReset i.toNat &&& (BitVec.allOnes (vl / 8)).setWidth 256 := by
  have h : i.toNat < 16 := i.isLt
  simp [predicatesAtReset, h]

/-- The bits of the mask of a predicate register. -/
theorem State.getLsbD_pMask (s : State) (i : Nat) (h : s.platform.vl / 8 ≤ 256) :
    s.pMask.getLsbD i = decide (i < s.platform.vl / 8) := by
  unfold State.pMask
  rw [BitVec.getLsbD_setWidth, BitVec.getLsbD_allOnes]
  by_cases k : i < s.platform.vl / 8
  · simp [k, show i < 256 by omega]
  · simp [k]

/-- The first active element: active, and none before it is. -/
theorem firstActive_some {g : BitVec 256} {l e k : Nat} :
    firstActive g l e = some k ↔ k < e ∧ predElem g l k = true ∧ ∀ j < k, predElem g l j = false := by
  unfold firstActive
  rw [List.find?_range_eq_some]
  simp only [List.mem_range, Bool.not_eq_true']
  tauto

/-- No element is active. -/
theorem firstActive_none {g : BitVec 256} {l e : Nat} :
    firstActive g l e = none ↔ ∀ k < e, predElem g l k = false := by
  simp [firstActive]

/-- The last active element: active, and none after it is. -/
theorem lastActive_some {g : BitVec 256} {l e k : Nat} :
    lastActive g l e = some k ↔
      k < e ∧ predElem g l k = true ∧ ∀ j, k < j → j < e → predElem g l j = false := by
  induction e with
  | zero => simp [lastActive]
  | succ e ih =>
    rw [lastActive]
    by_cases h : predElem g l e = true
    · rw [if_pos h]
      constructor
      · rintro ⟨⟩
        exact ⟨by omega, h, fun j h1 h2 => by omega⟩
      · rintro ⟨h1, h2, h3⟩
        by_contra hk
        have : k ≠ e := fun c => hk (by rw [c])
        rw [h3 e (by omega) (by omega)] at h
        cases h
    · rw [if_neg h, ih]
      constructor
      · rintro ⟨h1, h2, h3⟩
        refine ⟨by omega, h2, fun j h4 h5 => ?_⟩
        by_cases hj : j = e
        · rw [hj]; exact Bool.eq_false_iff.mpr h
        · exact h3 j h4 (by omega)
      · rintro ⟨h1, h2, h3⟩
        have : k ≠ e := fun c => h (by rw [← c]; exact h2)
        exact ⟨by omega, h2, fun j h4 h5 => h3 j h4 (by omega)⟩

/-- No element is active. -/
theorem lastActive_none {g : BitVec 256} {l e : Nat} :
    lastActive g l e = none ↔ ∀ k < e, predElem g l k = false := by
  induction e with
  | zero => simp [lastActive]
  | succ e ih =>
    rw [lastActive]
    by_cases h : predElem g l e = true
    · rw [if_pos h]
      exact ⟨by rintro ⟨⟩, fun c => by rw [c e (by omega)] at h; cases h⟩
    · rw [if_neg h, ih]
      constructor
      · intro c k hk
        by_cases hj : k = e
        · rw [hj]; exact Bool.eq_false_iff.mpr h
        · exact c k (by omega)
      · exact fun c k hk => c k (by omega)

/-- A bit of the predicate built from its elements (R422). -/
theorem getLsbD_predOf (l e : Nat) (f : Nat → Bool) (i : Nat) (h : l * e ≤ 256) :
    (predOf l e f).getLsbD i = (decide (i % l = 0) && decide (i / l < e) && f (i / l)) := by
  rw [predOf, getLsbD_bitsOfFn]
  by_cases k : i < 256
  · simp [k]
  · have : ¬(i % l = 0 ∧ i / l < e) := by
      rintro ⟨h1, h2⟩
      have h3 : l * (i / l) + i % l = i := Nat.div_add_mod i l
      have h4 : l * (i / l + 1) ≤ l * e := Nat.mul_le_mul_left l h2
      rw [Nat.mul_succ] at h4
      rcases Nat.eq_zero_or_pos l with h5 | h5
      · rw [h5, Nat.mod_zero] at h1; omega
      · omega
    by_cases h1 : i % l = 0 <;> by_cases h2 : i / l < e <;> simp_all

/-- An element of the predicate built from its elements. -/
theorem predElem_predOf {l e : Nat} (f : Nat → Bool) {k : Nat} (hl : 0 < l) (h : l * e ≤ 256) :
    predElem (predOf l e f) l k = (decide (k < e) && f k) := by
  rw [predElem, getLsbD_predOf l e f _ h, Nat.mul_mod_right, Nat.mul_div_cancel_left _ hl]
  simp

/-- WHILE's rule: an element holds exactly when the test holds for every element up to it (R426). -/
theorem whileHolds_iff (test : Nat → Bool) (k : Nat) : whileHolds test k = true ↔ ∀ j ≤ k, test j = true := by
  induction k with
  | zero => simp [whileHolds]
  | succ k ih =>
    rw [whileHolds, Bool.and_eq_true, ih]
    constructor
    · rintro ⟨h1, h2⟩ j hj
      by_cases h : j = k + 1
      · rw [h]; exact h2
      · exact h1 j (by omega)
    · exact fun h => ⟨fun j hj => h j (by omega), h (k + 1) (by omega)⟩

end Sys2Proof.Machine
end

