-- ==== Sys2Proof/Laws/Kept.lean ====
section
/-! SUPPORT. What every update of the state keeps (memory in canonical form, vector and predicate
registers within their length, the parameters, the status), closed under composition; and, for results,
that a fault or a refusal records the PC of the state it was raised in, and a refusal the command. One lemma per update and per check. -/

namespace Sys2Proof.Machine

/-- What no instruction breaks. -/
structure State.Kept (s t : State) : Prop where
  memory : Memory.wf s.mem = true → Memory.wf t.mem = true
  vectors : (∀ i : RegNum, s.zReg i &&& s.zMask = s.zReg i) → ∀ i : RegNum, t.zReg i &&& t.zMask = t.zReg i
  predicates : (∀ i : BitVec 4, s.pReg i &&& s.pMask = s.pReg i) →
    ∀ i : BitVec 4, t.pReg i &&& t.pMask = t.pReg i
  platform : t.platform = s.platform
  status : t.status = s.status
  btype : t.btype = s.btype
  movprfx : t.movprfx = s.movprfx

namespace State.Kept

variable {s t u : State}

theorem refl (s : State) : s.Kept s := ⟨id, id, id, rfl, rfl, rfl, rfl⟩

theorem trans (h : s.Kept t) (k : t.Kept u) : s.Kept u :=
  ⟨k.1 ∘ h.1, k.2 ∘ h.2, k.3 ∘ h.3, k.4.trans h.4, k.5.trans h.5, k.6.trans h.6, k.7.trans h.7⟩

/-- An update of none of these. -/
theorem of (hm : t.mem = s.mem) (hz : t.z = s.z) (hp : t.p = s.p) (h4 : t.platform = s.platform)
    (h5 : t.status = s.status) (h6 : t.btype = s.btype) (h7 : t.movprfx = s.movprfx) : s.Kept t := by
  refine ⟨by rw [hm]; exact id, fun h i => ?_, fun h i => ?_, h4, h5, h6, h7⟩
  · rw [State.zReg_congr hz, State.zMask, h4]; exact h i
  · rw [State.pReg_congr hp, State.pMask, h4]; exact h i

theorem wrRz {n : Nat} {i : RegNum} {v : BitVec n} (h : s.Kept t) : s.Kept (t.wrRz i v) :=
  h.trans (of (by simp) (by simp) (by simp) (by simp) (by simp) (by simp) (by simp))

theorem wrRsp {n : Nat} {i : RegNum} {v : BitVec n} (h : s.Kept t) : s.Kept (t.wrRsp i v) :=
  h.trans (of (by simp) (by simp) (by simp) (by simp) (by simp) (by simp) (by simp))

theorem setFlags {f : Nzcv} (h : s.Kept t) : s.Kept (t.setFlags f) := h.trans (of rfl rfl rfl rfl rfl rfl rfl)

theorem branchTo {a : Word} (h : s.Kept t) : s.Kept (t.branchTo a) := h.trans (of rfl rfl rfl rfl rfl rfl rfl)

theorem setBTypeNext {b : BType} (h : s.Kept t) : s.Kept (t.setBTypeNext b) :=
  h.trans (of rfl rfl rfl rfl rfl rfl rfl)

theorem clearLocal (h : s.Kept t) : s.Kept t.clearLocal := h.trans (of rfl rfl rfl rfl rfl rfl rfl)

theorem markExclusive {a : Word} {n : Nat} (h : s.Kept t) : s.Kept (t.markExclusive a n) :=
  h.trans (of rfl rfl rfl rfl rfl rfl rfl)

theorem drawn (h : s.Kept t) : s.Kept t.drawn := h.trans (of rfl rfl rfl rfl rfl rfl rfl)

theorem drawnBy {n : Nat} (h : s.Kept t) : s.Kept (t.drawnBy n) := h.trans (of rfl rfl rfl rfl rfl rfl rfl)

theorem memWrite {a : Word} {n w : Nat} {v : BitVec w} (h : s.Kept t) : s.Kept (t.memWrite a n v) :=
  h.trans ⟨fun k => Memory.wf_write k _ _ _, fun k => k, fun k => k, rfl, rfl, rfl, rfl⟩

theorem store {a : Word} {n w : Nat} {v : BitVec w} (h : s.Kept t) : s.Kept (t.store a n v) :=
  clearLocal (memWrite h)

theorem wrZ {i : RegNum} {v : BitVec 2048} (h : s.Kept t) : s.Kept (t.wrZ i v) := by
  refine h.trans ⟨fun k => k, fun k j => ?_, fun k => k, rfl, rfl, rfl, rfl⟩
  have e : (t.wrZ i v).zMask = t.zMask := rfl
  rw [e, State.zReg_wrZ]; split
  · rw [BitVec.and_assoc, BitVec.and_self]
  · exact k j

theorem wrP {i : BitVec 4} {v : BitVec 256} (h : s.Kept t) : s.Kept (t.wrP i v) := by
  refine h.trans ⟨fun k => k, fun k => k, fun k j => ?_, rfl, rfl, rfl, rfl⟩
  have e : (t.wrP i v).pMask = t.pMask := rfl
  rw [e, State.pReg_wrP]; split
  · rw [BitVec.and_assoc, BitVec.and_self]
  · exact k j

theorem wrV {i : RegNum} {v : BitVec 128} (h : s.Kept t) : s.Kept (t.wrV i v) := drawn (wrZ h)

theorem writeBack {rn : RegNum} {b : Option Word} (h : s.Kept t) : s.Kept (t.writeBack rn b) := by
  cases b
  · exact h
  · exact wrRsp h

theorem wrPredFlags {pd : PredNum} {v : BitVec 256} {f : Option Nzcv} (h : s.Kept t) :
    s.Kept (t.wrPredFlags pd v f) := by
  cases f
  · exact wrP h
  · exact setFlags (wrP h)

theorem adjust {m : CountMode} {d : Int} {r : RegNum} (h : s.Kept t) : s.Kept (t.adjust m d r) := by
  unfold State.adjust; split <;> exact wrRz h

theorem branchIf {b : Bool} {a : Word} (h : s.Kept t) : s.Kept (t.branchIf b a) := by
  unfold State.branchIf; split
  · exact branchTo h
  · exact h

theorem rndrDraw {rt : RegNum} (h : s.Kept t) : s.Kept (t.rndrDraw rt) :=
  (wrRz h).trans (of rfl rfl rfl rfl rfl rfl rfl)

theorem foldl {α : Type} (l : List α) (f : State → α → State) (hf : ∀ (t : State) (a : α), t.Kept (f t a)) (h : s.Kept t) :
    s.Kept (l.foldl f t) := by
  induction l generalizing t with
  | nil => exact h
  | cons a l ih => exact ih (h.trans (hf t a))

theorem freeX (h : s.Kept t) (l : List RegNum) : s.Kept (l.foldl State.freeX t) :=
  foldl l _ (fun t _ => drawn (wrRz (refl t))) h

theorem freeZ (h : s.Kept t) (l : List RegNum) : s.Kept (l.foldl State.freeZ t) :=
  foldl l _ (fun t _ => drawn (wrZ (refl t))) h

theorem freeP (h : s.Kept t) (l : List (BitVec 4)) : s.Kept (l.foldl State.freeP t) :=
  foldl l _ (fun t _ => drawn (wrP (refl t))) h

theorem freeTop (h : s.Kept t) (l : List RegNum) : s.Kept (l.foldl State.freeTop t) :=
  foldl l _ (fun t _ => drawn (wrZ (refl t))) h

theorem freeNzcv (h : s.Kept t) : s.Kept t.freeNzcv := drawn (setFlags h)

theorem freeSp (h : s.Kept t) : s.Kept t.freeSp := h.trans (of rfl rfl rfl rfl rfl rfl rfl)

theorem freeFpcr (h : s.Kept t) : s.Kept t.freeFpcr := h.trans (of rfl rfl rfl rfl rfl rfl rfl)

theorem freeMem (h : s.Kept t) : s.Kept t.freeMem :=
  h.trans ⟨fun _ => Memory.wf_ofCells _, fun k => k, fun k => k, rfl, rfl, rfl, rfl⟩

theorem freeCallerSaved (s : State) : s.Kept s.freeCallerSaved := freeP (freeTop (freeZ (freeX (refl s) _) _) _) _

theorem afterPrintf (s : State) : s.Kept s.afterPrintf := freeNzcv (freeCallerSaved s)

theorem afterRuntimeCall (s : State) : s.Kept s.afterRuntimeCall :=
  freeMem (freeFpcr (freeSp (freeNzcv (freeP (freeZ (freeX (refl s) _) _) _))))

theorem restoreFeatures (s : State) : s.Kept s.restoreFeatures := of rfl rfl rfl rfl rfl rfl rfl

/-- A host's answer is cut to the form the registers and the memory have. -/
theorem takeHost (s t : State) : s.Kept (s.takeHost t) := by
  refine ⟨fun _ => Memory.wf_ofCells _, fun _ i => ?_, fun _ i => ?_, rfl, rfl, rfl, rfl⟩
  · have e : (s.takeHost t).zMask = s.zMask := rfl
    have h : i.toNat < 32 := i.isLt
    rw [e]
    simp [State.zReg, State.takeHost, h, BitVec.and_assoc]
  · have e : (s.takeHost t).pMask = s.pMask := rfl
    have h : i.toNat < 16 := i.isLt
    rw [e]
    simp [State.pReg, State.takeHost, h, BitVec.and_assoc]

theorem withFeatureList {f : List Feature → List Feature} {r : State × Nat} (h : s.withFeatureList f = some r) :
    s.Kept r.1 := by
  obtain ⟨fs, -, rfl⟩ := Option.map_eq_some_iff.mp h
  exact of rfl rfl rfl rfl rfl rfl rfl

/-- Every host service keeps these (R392). -/
theorem hostEffect {imm16 : BitVec 16} {service : HostService} {r : State × Nat}
    (h : s.hostEffect imm16 service = some r) : s.Kept r.1 := by
  cases service <;> simp only [State.hostEffect, Option.some.injEq, reduceCtorEq] at h
  case trace | log => subst h; exact refl _
  case printf => subst h; exact afterPrintf s
  case runtimeCall => subst h; exact afterRuntimeCall s
  case setFeatures | enableFeatures | disableFeatures => exact withFeatureList h
  case saveFeatures => subst h; exact refl _
  case restoreFeatures => subst h; exact restoreFeatures s
  case unnamed =>
    obtain ⟨t, -, rfl⟩ := Option.map_eq_some_iff.mp h
    exact takeHost s _

end State.Kept

/-! ## Results -/

/-- A result of the command `c` keeps what no instruction breaks; its fault records PC, and its refusal PC
and the command. -/
def Good (c : Command) (s : State) (r : Result) : Prop :=
  (∀ t, r = .next t → s.Kept t) ∧ (∀ f, r = .fault f → f.pc = s.pc) ∧
    ∀ q, r = .refused q → q.pc? = some s.pc ∧ q.command? = some c

namespace Good

variable {s t : State} {k : Result} {c : Command}

theorem next (h : s.Kept t) : Good c s (.next t) := ⟨by rintro _ ⟨⟩; exact h, by rintro _ ⟨⟩, by rintro _ ⟨⟩⟩

theorem raise {f : Word → Fault} (h : (f s.pc).pc = s.pc) : Good c s (s.raise f) :=
  ⟨by rintro _ ⟨⟩, by rintro _ ⟨⟩; exact h, by rintro _ ⟨⟩⟩

theorem refuse {f : Word → Refusal} (h : (f s.pc).pc? = some s.pc) (h' : (f s.pc).command? = some c) :
    Good c s (s.refuse f) :=
  ⟨by rintro _ ⟨⟩, by rintro _ ⟨⟩, by rintro _ ⟨⟩; exact ⟨h, h'⟩⟩

theorem ite {p : Prop} [Decidable p] {a b : Result} (ha : Good c s a) (hb : Good c s b) :
    Good c s (if p then a else b) := by
  split <;> assumption

theorem whenWellFormed {i : Instr} (h : Good c s k) : Good c s (whenWellFormed i s k) := ite h (raise rfl)

theorem whenNative {n : NativeCmd} (h : Good c s k) : Good c s (whenNative n s k) := ite h (raise rfl)

theorem whenFp {n : NativeCmd} (h : Good c s k) : Good c s (whenFp n s k) := ite h (raise rfl)

theorem whenNativeFp {n : NativeCmd} (h : Good c s k) : Good c s (whenNativeFp n s k) := whenNative (whenFp h)

theorem checkSp {rn : RegNum} (h : Good c s k) : Good c s (s.checkSp rn k) := ite (raise rfl) h

theorem checkLine {a : Word} {n : Nat} (h : Good c s k) : Good c s (s.checkLine a n k) := ite (raise rfl) h

theorem checkValid {a : Word} {n : Nat} (h : Good c s k) : Good c s (s.checkValid a n k) := ite h (raise rfl)

theorem checkWriteback {rn rt : RegNum} (h : Good c s k) : Good c s (s.checkWriteback c rn rt k) :=
  ite (refuse rfl rfl) h

theorem checkLoadPair {rt rt2 : RegNum} (h : Good c s k) : Good c s (s.checkLoadPair c rt rt2 k) :=
  ite (refuse rfl rfl) h

theorem checkStatusRegister {rs rn rt : RegNum} (h : Good c s k) : Good c s (s.checkStatusRegister c rs rn rt k) :=
  ite (refuse rfl rfl) h

theorem checkPair {a : Word} {n : Nat} (h : Good c s k) : Good c s (s.checkPair a n k) := checkValid (checkValid h)

theorem checkAtomic {rn : RegNum} {n : Nat} (h : Good c s k) : Good c s (s.checkAtomic rn n k) :=
  checkSp (checkLine (checkValid h))

end Good

end Sys2Proof.Machine
end

