-- ==== Sys2Proof/Laws/Ops.lean ====
section
/-! SUPPORT. What each check and each shared load and store operation answers: one lemma says when it
gives a next state and which, so that no later proof unfolds the checks. -/

namespace Sys2Proof.Machine

variable {s t : State} {k : Result} {c : Command}

/-! ## Checks -/

/-- A well-formed instruction runs. -/
theorem whenWellFormed_pos {i : Instr} (h : i.wellFormed = true) : whenWellFormed i s k = k := by
  simp [whenWellFormed, h]

theorem whenWellFormed_next {i : Instr} :
    whenWellFormed i s k = .next t ↔ i.wellFormed = true ∧ k = .next t := by
  unfold whenWellFormed State.raise; split <;> simp [*]

theorem State.checkSp_pos {rn : RegNum} (h : s.baseOk rn) : s.checkSp rn k = k := by
  unfold State.checkSp; rw [if_neg]; rintro ⟨h1, h2⟩; exact h2 (h h1)

theorem State.checkSp_neg {rn : RegNum} (h : ¬s.baseOk rn) : s.checkSp rn k = .fault (.alignment s.pc s.sp) := by
  simp only [State.baseOk, Classical.not_imp] at h
  unfold State.checkSp; rw [if_pos h]; rfl

theorem State.checkSp_next {rn : RegNum} : s.checkSp rn k = .next t ↔ s.baseOk rn ∧ k = .next t := by
  by_cases h : s.baseOk rn
  · simp [State.checkSp_pos h, h]
  · simp [State.checkSp_neg h, h]

theorem State.checkLine_pos {addr : Word} {size : Nat} (h : inLine addr size) : s.checkLine addr size k = k := by
  unfold inLine at h
  unfold State.checkLine; rw [if_neg (by omega)]

theorem State.checkLine_neg {addr : Word} {size : Nat} (h : ¬inLine addr size) :
    s.checkLine addr size k = .fault (.alignment s.pc addr) := by
  unfold inLine at h
  unfold State.checkLine; rw [if_pos (by omega)]; rfl

theorem State.checkLine_next {addr : Word} {size : Nat} :
    s.checkLine addr size k = .next t ↔ inLine addr size ∧ k = .next t := by
  by_cases h : inLine addr size
  · simp [State.checkLine_pos h, h]
  · simp [State.checkLine_neg h, h]

theorem State.checkValid_pos {addr : Word} {size : Nat} (h : s.memValid addr size = true) :
    s.checkValid addr size k = k := by simp [State.checkValid, h]

theorem State.checkValid_neg {addr : Word} {size : Nat} (h : s.memValid addr size = false) :
    s.checkValid addr size k = .fault (.address s.pc addr) := by simp [State.checkValid, State.raise, h]

theorem State.checkValid_next {addr : Word} {size : Nat} :
    s.checkValid addr size k = .next t ↔ s.memValid addr size = true ∧ k = .next t := by
  unfold State.checkValid State.raise; split <;> simp [*]

theorem State.checkWriteback_pos {rn rt : RegNum} (h : rn ≠ rt ∨ rn = 31#5) : s.checkWriteback c rn rt k = k := by
  unfold State.checkWriteback; rw [if_neg]; rintro ⟨h1, h2⟩; cases h <;> contradiction

theorem State.checkWriteback_neg {rn rt : RegNum} (h : ¬(rn ≠ rt ∨ rn = 31#5)) :
    s.checkWriteback c rn rt k = .refused (.writebackOverlap s.pc c) := by
  rw [not_or, not_not] at h
  unfold State.checkWriteback; rw [if_pos h]; rfl

theorem State.checkWriteback_next {rn rt : RegNum} :
    s.checkWriteback c rn rt k = .next t ↔ (rn ≠ rt ∨ rn = 31#5) ∧ k = .next t := by
  by_cases h : rn ≠ rt ∨ rn = 31#5
  · rw [State.checkWriteback_pos h]; exact (and_iff_right h).symm
  · rw [State.checkWriteback_neg h]; simp only [reduceCtorEq, false_iff]; exact fun k => h k.1

theorem State.checkLoadPair_pos {rt rt2 : RegNum} (h : rt ≠ rt2) : s.checkLoadPair c rt rt2 k = k := by
  simp [State.checkLoadPair, h]

theorem State.checkLoadPair_next {rt rt2 : RegNum} :
    s.checkLoadPair c rt rt2 k = .next t ↔ rt ≠ rt2 ∧ k = .next t := by
  unfold State.checkLoadPair State.refuse; split <;> simp [*]

theorem State.checkStatusRegister_next {rs rn rt : RegNum} :
    s.checkStatusRegister c rs rn rt k = .next t ↔ ¬(rs = rt ∨ rs = rn) ∧ k = .next t := by
  unfold State.checkStatusRegister State.refuse; split <;> simp [*]

theorem State.checkPair_next {addr : Word} {size : Nat} :
    s.checkPair addr size k = .next t ↔
      s.memValid addr size = true ∧ s.memValid (pairSecond addr size) size = true ∧ k = .next t := by
  simp [State.checkPair, State.checkValid_next]

theorem State.checkAtomic_pos {rn : RegNum} {size : Nat} (h1 : s.baseOk rn) (h2 : inLine (s.rsp 64 rn) size)
    (h3 : s.memValid (s.rsp 64 rn) size = true) : s.checkAtomic rn size k = k := by
  unfold State.checkAtomic State.base
  rw [State.checkSp_pos h1, State.checkLine_pos h2, State.checkValid_pos h3]

theorem State.checkAtomic_next {rn : RegNum} {size : Nat} : s.checkAtomic rn size k = .next t ↔
    s.baseOk rn ∧ inLine (s.rsp 64 rn) size ∧ s.memValid (s.rsp 64 rn) size = true ∧ k = .next t := by
  simp [State.checkAtomic, State.base, State.checkSp_next, State.checkLine_next, State.checkValid_next]

/-! ## Loads and stores -/

variable {rn rt rt2 : RegNum} {addr back : Word} {size n : Nat} {signed : Bool}

theorem State.load_next : s.load rn rt addr size signed n = .next t ↔
    s.baseOk rn ∧ s.memValid addr size = true ∧ s.loadTo addr size signed n rt = t := by
  simp [State.load, State.checkSp_next, State.checkValid_next]

theorem State.storeAt_next : s.storeAt rn rt addr size = .next t ↔
    s.baseOk rn ∧ s.memValid addr size = true ∧ s.storeFrom addr size rt = t := by
  simp [State.storeAt, State.checkSp_next, State.checkValid_next]

theorem State.loadIndexed_next : s.loadIndexed c rn rt addr back size signed n = .next t ↔
    (rn ≠ rt ∨ rn = 31#5) ∧ s.baseOk rn ∧ s.memValid addr size = true ∧
      (s.loadTo addr size signed n rt).wrRsp rn back = t := by
  simp [State.loadIndexed, State.checkWriteback_next, State.checkSp_next, State.checkValid_next]

theorem State.storeIndexed_next : s.storeIndexed c rn rt addr back size = .next t ↔
    (rn ≠ rt ∨ rn = 31#5) ∧ s.baseOk rn ∧ s.memValid addr size = true ∧
      (s.storeFrom addr size rt).wrRsp rn back = t := by
  simp [State.storeIndexed, State.checkWriteback_next, State.checkSp_next, State.checkValid_next]

theorem State.loadPair_next : s.loadPair c rn rt rt2 addr size signed n = .next t ↔
    rt ≠ rt2 ∧ s.baseOk rn ∧ s.memValid addr size = true ∧ s.memValid (pairSecond addr size) size = true ∧
      s.loadPairTo addr size signed n rt rt2 = t := by
  simp [State.loadPair, State.checkLoadPair_next, State.checkSp_next, State.checkPair_next]

theorem State.storePair_next : s.storePair rn rt rt2 addr size = .next t ↔
    s.baseOk rn ∧ s.memValid addr size = true ∧ s.memValid (pairSecond addr size) size = true ∧
      s.storePairFrom addr size rt rt2 = t := by
  simp [State.storePair, State.checkSp_next, State.checkPair_next]

theorem State.loadPairIndexed_next : s.loadPairIndexed c rn rt rt2 addr back size signed n = .next t ↔
    rt ≠ rt2 ∧ (rn ≠ rt ∨ rn = 31#5) ∧ (rn ≠ rt2 ∨ rn = 31#5) ∧ s.baseOk rn ∧ s.memValid addr size = true ∧
      s.memValid (pairSecond addr size) size = true ∧
      (s.loadPairTo addr size signed n rt rt2).wrRsp rn back = t := by
  simp [State.loadPairIndexed, State.checkLoadPair_next, State.checkWriteback_next, State.checkSp_next,
    State.checkPair_next]

theorem State.storePairIndexed_next : s.storePairIndexed c rn rt rt2 addr back size = .next t ↔
    (rn ≠ rt ∨ rn = 31#5) ∧ (rn ≠ rt2 ∨ rn = 31#5) ∧ s.baseOk rn ∧ s.memValid addr size = true ∧
      s.memValid (pairSecond addr size) size = true ∧
      (s.storePairFrom addr size rt rt2).wrRsp rn back = t := by
  simp [State.storePairIndexed, State.checkWriteback_next, State.checkSp_next, State.checkPair_next]

theorem State.loadLiteral_next : s.loadLiteral rt addr size signed n = .next t ↔
    s.memValid addr size = true ∧ s.loadTo addr size signed n rt = t := by
  simp [State.loadLiteral, State.checkValid_next]

theorem State.loadExclusive_next {sz : AccessSize} : s.loadExclusive sz rn rt = .next t ↔
    s.baseOk rn ∧ inLine (s.rsp 64 rn) (accessBytes sz) ∧ s.memValid (s.rsp 64 rn) (accessBytes sz) = true ∧
      (s.loadTo (s.rsp 64 rn) (accessBytes sz) false (accessRegWidth sz) rt).markExclusive (s.rsp 64 rn)
        (accessBytes sz) = t := by
  simp [State.loadExclusive, State.checkAtomic_next, State.base]

theorem State.storeExclusive_next {sz : AccessSize} {rs : RegNum} : s.storeExclusive c sz rs rn rt = .next t ↔
    ¬(rs = rt ∨ rs = rn) ∧ s.baseOk rn ∧ inLine (s.rsp 64 rn) (accessBytes sz) ∧
      s.memValid (s.rsp 64 rn) (accessBytes sz) = true ∧
      (if s.exclusiveOk (s.rsp 64 rn) (accessBytes sz) then
        ((s.memWrite (s.rsp 64 rn) (accessBytes sz) (s.rz 64 rt)).clearLocal).wrRz rs 0#32
      else s.clearLocal.wrRz rs 1#32) = t := by
  unfold State.storeExclusive State.base
  rw [State.checkStatusRegister_next, State.checkAtomic_next]
  by_cases h : s.exclusiveOk (s.rsp 64 rn) (accessBytes sz) = true <;> simp [h]

theorem State.loadAcquire_next {sz : AccessSize} : s.loadAcquire sz rn rt = .next t ↔
    s.baseOk rn ∧ inLine (s.rsp 64 rn) (accessBytes sz) ∧ s.memValid (s.rsp 64 rn) (accessBytes sz) = true ∧
      s.loadTo (s.rsp 64 rn) (accessBytes sz) false (accessRegWidth sz) rt = t := by
  simp [State.loadAcquire, State.checkAtomic_next, State.base]

theorem State.storeRelease_next {sz : AccessSize} : s.storeRelease sz rn rt = .next t ↔
    s.baseOk rn ∧ inLine (s.rsp 64 rn) (accessBytes sz) ∧ s.memValid (s.rsp 64 rn) (accessBytes sz) = true ∧
      s.storeFrom (s.rsp 64 rn) (accessBytes sz) rt = t := by
  simp [State.storeRelease, State.checkAtomic_next, State.base]

theorem State.atomicUpdate_next {sz : AccessSize} {rs : RegNum}
    {op : BitVec (8 * accessBytes sz) → BitVec (8 * accessBytes sz) → BitVec (8 * accessBytes sz)} :
    s.atomicUpdate sz rs rn rt op = .next t ↔
    s.baseOk rn ∧ inLine (s.rsp 64 rn) (accessBytes sz) ∧ s.memValid (s.rsp 64 rn) (accessBytes sz) = true ∧
      (s.store (s.rsp 64 rn) (accessBytes sz)
        (op (s.memRead (s.rsp 64 rn) (accessBytes sz)) (s.rz (8 * accessBytes sz) rs))).wrRz rt
        ((s.memRead (s.rsp 64 rn) (accessBytes sz)).setWidth (accessRegWidth sz)) = t := by
  simp [State.atomicUpdate, State.checkAtomic_next, State.base]

/-! ## Values loaded (R23, R356) -/

/-- A sub-word value is zero-extended to the whole register, through W or directly. -/
theorem setWidth_accessRegWidth (sz : AccessSize) (v : BitVec (8 * accessBytes sz)) :
    (v.setWidth (accessRegWidth sz)).setWidth 64 = v.setWidth 64 := by
  have h : v.toNat < 2 ^ accessRegWidth sz := Nat.lt_of_lt_of_le v.isLt (by cases sz <;> decide)
  apply BitVec.eq_of_toNat_eq
  simp only [BitVec.toNat_setWidth, Nat.mod_eq_of_lt h]

end Sys2Proof.Machine
end

