-- ==== Sys2Proof/Laws/PerInstr.lean ====
section
/-! SUPPORT. The per-instruction family `RoundTrip`: the format of a well-formed instruction selects the
instruction again. -/

namespace Sys2Proof.Laws

/-- Encoding loses nothing: the opcode fields of an instruction's format select that instruction. -/
def RoundTrip.Statement (i : Instr) : Prop := i.wellFormed = true → i.toFormat.toInstr? = some i

/-- A one-bit field written from a `Bool` reads as that `Bool`. -/
@[simp] theorem isOne_ofBool (b : Bool) : isOne (BitVec.ofBool b) = b := by cases b <;> rfl

/-- A shift type is read from the bits it is written as. -/
@[simp] theorem shiftOfBits_shiftBits (t : ShiftType) : shiftOfBits (shiftBits t) = t := by cases t <;> rfl

/-- An extend option is read from the bits it is written as. -/
@[simp] theorem extendOfBits_extendBits (t : ExtendType) : extendOfBits (extendBits t) = t := by
  cases t <;> rfl

/-- An access size is read from the bits it is written as. -/
@[simp] theorem sizeOfBits_sizeBits (z : AccessSize) : sizeOfBits (sizeBits z) = z := by cases z <;> rfl

theorem RoundTrip.addImmediate (sf : Bool) (sh : Bool) (imm12 : BitVec 12) (rn : RegNum) (rd : RegNum) :
    RoundTrip.Statement (.addImmediate sf sh imm12 rn rd) := by intro _; cases sf <;> cases sh <;> rfl

theorem RoundTrip.addsImmediate (sf : Bool) (sh : Bool) (imm12 : BitVec 12) (rn : RegNum) (rd : RegNum) :
    RoundTrip.Statement (.addsImmediate sf sh imm12 rn rd) := by intro _; cases sf <;> cases sh <;> rfl

theorem RoundTrip.subImmediate (sf : Bool) (sh : Bool) (imm12 : BitVec 12) (rn : RegNum) (rd : RegNum) :
    RoundTrip.Statement (.subImmediate sf sh imm12 rn rd) := by intro _; cases sf <;> cases sh <;> rfl

theorem RoundTrip.subsImmediate (sf : Bool) (sh : Bool) (imm12 : BitVec 12) (rn : RegNum) (rd : RegNum) :
    RoundTrip.Statement (.subsImmediate sf sh imm12 rn rd) := by intro _; cases sf <;> cases sh <;> rfl

theorem RoundTrip.addShiftedRegister (sf : Bool) (shift : ShiftType) (rm : RegNum) (imm6 : BitVec 6) (rn : RegNum) (rd : RegNum) :
    RoundTrip.Statement (.addShiftedRegister sf shift rm imm6 rn rd) := by intro _; cases sf <;> cases shift <;> rfl

theorem RoundTrip.addsShiftedRegister (sf : Bool) (shift : ShiftType) (rm : RegNum) (imm6 : BitVec 6) (rn : RegNum) (rd : RegNum) :
    RoundTrip.Statement (.addsShiftedRegister sf shift rm imm6 rn rd) := by intro _; cases sf <;> cases shift <;> rfl

theorem RoundTrip.subShiftedRegister (sf : Bool) (shift : ShiftType) (rm : RegNum) (imm6 : BitVec 6) (rn : RegNum) (rd : RegNum) :
    RoundTrip.Statement (.subShiftedRegister sf shift rm imm6 rn rd) := by intro _; cases sf <;> cases shift <;> rfl

theorem RoundTrip.subsShiftedRegister (sf : Bool) (shift : ShiftType) (rm : RegNum) (imm6 : BitVec 6) (rn : RegNum) (rd : RegNum) :
    RoundTrip.Statement (.subsShiftedRegister sf shift rm imm6 rn rd) := by intro _; cases sf <;> cases shift <;> rfl

theorem RoundTrip.addExtendedRegister (sf : Bool) (rm : RegNum) (ext : ExtendType) (imm3 : BitVec 3) (rn : RegNum) (rd : RegNum) :
    RoundTrip.Statement (.addExtendedRegister sf rm ext imm3 rn rd) := by intro _; cases sf <;> cases ext <;> rfl

theorem RoundTrip.addsExtendedRegister (sf : Bool) (rm : RegNum) (ext : ExtendType) (imm3 : BitVec 3) (rn : RegNum) (rd : RegNum) :
    RoundTrip.Statement (.addsExtendedRegister sf rm ext imm3 rn rd) := by intro _; cases sf <;> cases ext <;> rfl

theorem RoundTrip.subExtendedRegister (sf : Bool) (rm : RegNum) (ext : ExtendType) (imm3 : BitVec 3) (rn : RegNum) (rd : RegNum) :
    RoundTrip.Statement (.subExtendedRegister sf rm ext imm3 rn rd) := by intro _; cases sf <;> cases ext <;> rfl

theorem RoundTrip.subsExtendedRegister (sf : Bool) (rm : RegNum) (ext : ExtendType) (imm3 : BitVec 3) (rn : RegNum) (rd : RegNum) :
    RoundTrip.Statement (.subsExtendedRegister sf rm ext imm3 rn rd) := by intro _; cases sf <;> cases ext <;> rfl

theorem RoundTrip.adc (sf : Bool) (rm : RegNum) (rn : RegNum) (rd : RegNum) :
    RoundTrip.Statement (.adc sf rm rn rd) := by intro _; cases sf <;> rfl

theorem RoundTrip.adcs (sf : Bool) (rm : RegNum) (rn : RegNum) (rd : RegNum) :
    RoundTrip.Statement (.adcs sf rm rn rd) := by intro _; cases sf <;> rfl

theorem RoundTrip.sbc (sf : Bool) (rm : RegNum) (rn : RegNum) (rd : RegNum) :
    RoundTrip.Statement (.sbc sf rm rn rd) := by intro _; cases sf <;> rfl

theorem RoundTrip.sbcs (sf : Bool) (rm : RegNum) (rn : RegNum) (rd : RegNum) :
    RoundTrip.Statement (.sbcs sf rm rn rd) := by intro _; cases sf <;> rfl

theorem RoundTrip.andShiftedRegister (sf : Bool) (shift : ShiftType) (rm : RegNum) (imm6 : BitVec 6) (rn : RegNum) (rd : RegNum) :
    RoundTrip.Statement (.andShiftedRegister sf shift rm imm6 rn rd) := by intro _; cases sf <;> cases shift <;> rfl

theorem RoundTrip.bicShiftedRegister (sf : Bool) (shift : ShiftType) (rm : RegNum) (imm6 : BitVec 6) (rn : RegNum) (rd : RegNum) :
    RoundTrip.Statement (.bicShiftedRegister sf shift rm imm6 rn rd) := by intro _; cases sf <;> cases shift <;> rfl

theorem RoundTrip.orrShiftedRegister (sf : Bool) (shift : ShiftType) (rm : RegNum) (imm6 : BitVec 6) (rn : RegNum) (rd : RegNum) :
    RoundTrip.Statement (.orrShiftedRegister sf shift rm imm6 rn rd) := by intro _; cases sf <;> cases shift <;> rfl

theorem RoundTrip.ornShiftedRegister (sf : Bool) (shift : ShiftType) (rm : RegNum) (imm6 : BitVec 6) (rn : RegNum) (rd : RegNum) :
    RoundTrip.Statement (.ornShiftedRegister sf shift rm imm6 rn rd) := by intro _; cases sf <;> cases shift <;> rfl

theorem RoundTrip.eorShiftedRegister (sf : Bool) (shift : ShiftType) (rm : RegNum) (imm6 : BitVec 6) (rn : RegNum) (rd : RegNum) :
    RoundTrip.Statement (.eorShiftedRegister sf shift rm imm6 rn rd) := by intro _; cases sf <;> cases shift <;> rfl

theorem RoundTrip.eonShiftedRegister (sf : Bool) (shift : ShiftType) (rm : RegNum) (imm6 : BitVec 6) (rn : RegNum) (rd : RegNum) :
    RoundTrip.Statement (.eonShiftedRegister sf shift rm imm6 rn rd) := by intro _; cases sf <;> cases shift <;> rfl

theorem RoundTrip.andsShiftedRegister (sf : Bool) (shift : ShiftType) (rm : RegNum) (imm6 : BitVec 6) (rn : RegNum) (rd : RegNum) :
    RoundTrip.Statement (.andsShiftedRegister sf shift rm imm6 rn rd) := by intro _; cases sf <;> cases shift <;> rfl

theorem RoundTrip.bicsShiftedRegister (sf : Bool) (shift : ShiftType) (rm : RegNum) (imm6 : BitVec 6) (rn : RegNum) (rd : RegNum) :
    RoundTrip.Statement (.bicsShiftedRegister sf shift rm imm6 rn rd) := by intro _; cases sf <;> cases shift <;> rfl

theorem RoundTrip.andImmediate (sf : Bool) (nBit : Bool) (immr : BitVec 6) (imms : BitVec 6) (rn : RegNum) (rd : RegNum) :
    RoundTrip.Statement (.andImmediate sf nBit immr imms rn rd) := by intro _; cases sf <;> cases nBit <;> rfl

theorem RoundTrip.orrImmediate (sf : Bool) (nBit : Bool) (immr : BitVec 6) (imms : BitVec 6) (rn : RegNum) (rd : RegNum) :
    RoundTrip.Statement (.orrImmediate sf nBit immr imms rn rd) := by intro _; cases sf <;> cases nBit <;> rfl

theorem RoundTrip.eorImmediate (sf : Bool) (nBit : Bool) (immr : BitVec 6) (imms : BitVec 6) (rn : RegNum) (rd : RegNum) :
    RoundTrip.Statement (.eorImmediate sf nBit immr imms rn rd) := by intro _; cases sf <;> cases nBit <;> rfl

theorem RoundTrip.andsImmediate (sf : Bool) (nBit : Bool) (immr : BitVec 6) (imms : BitVec 6) (rn : RegNum) (rd : RegNum) :
    RoundTrip.Statement (.andsImmediate sf nBit immr imms rn rd) := by intro _; cases sf <;> cases nBit <;> rfl

theorem RoundTrip.movn (sf : Bool) (hw : BitVec 2) (imm16 : BitVec 16) (rd : RegNum) :
    RoundTrip.Statement (.movn sf hw imm16 rd) := by intro _; cases sf <;> rfl

theorem RoundTrip.movz (sf : Bool) (hw : BitVec 2) (imm16 : BitVec 16) (rd : RegNum) :
    RoundTrip.Statement (.movz sf hw imm16 rd) := by intro _; cases sf <;> rfl

theorem RoundTrip.movk (sf : Bool) (hw : BitVec 2) (imm16 : BitVec 16) (rd : RegNum) :
    RoundTrip.Statement (.movk sf hw imm16 rd) := by intro _; cases sf <;> rfl

theorem RoundTrip.ccmnRegister (sf : Bool) (rm : RegNum) (cond : Cond) (rn : RegNum) (nzcv : BitVec 4) :
    RoundTrip.Statement (.ccmnRegister sf rm cond rn nzcv) := by intro _; cases sf <;> rfl

theorem RoundTrip.ccmpRegister (sf : Bool) (rm : RegNum) (cond : Cond) (rn : RegNum) (nzcv : BitVec 4) :
    RoundTrip.Statement (.ccmpRegister sf rm cond rn nzcv) := by intro _; cases sf <;> rfl

theorem RoundTrip.ccmnImmediate (sf : Bool) (imm5 : BitVec 5) (cond : Cond) (rn : RegNum) (nzcv : BitVec 4) :
    RoundTrip.Statement (.ccmnImmediate sf imm5 cond rn nzcv) := by intro _; cases sf <;> rfl

theorem RoundTrip.ccmpImmediate (sf : Bool) (imm5 : BitVec 5) (cond : Cond) (rn : RegNum) (nzcv : BitVec 4) :
    RoundTrip.Statement (.ccmpImmediate sf imm5 cond rn nzcv) := by intro _; cases sf <;> rfl

theorem RoundTrip.csel (sf : Bool) (rm : RegNum) (cond : Cond) (rn : RegNum) (rd : RegNum) :
    RoundTrip.Statement (.csel sf rm cond rn rd) := by intro _; cases sf <;> rfl

theorem RoundTrip.csinc (sf : Bool) (rm : RegNum) (cond : Cond) (rn : RegNum) (rd : RegNum) :
    RoundTrip.Statement (.csinc sf rm cond rn rd) := by intro _; cases sf <;> rfl

theorem RoundTrip.csinv (sf : Bool) (rm : RegNum) (cond : Cond) (rn : RegNum) (rd : RegNum) :
    RoundTrip.Statement (.csinv sf rm cond rn rd) := by intro _; cases sf <;> rfl

theorem RoundTrip.csneg (sf : Bool) (rm : RegNum) (cond : Cond) (rn : RegNum) (rd : RegNum) :
    RoundTrip.Statement (.csneg sf rm cond rn rd) := by intro _; cases sf <;> rfl

theorem RoundTrip.sbfm (sf : Bool) (nBit : Bool) (immr : BitVec 6) (imms : BitVec 6) (rn : RegNum) (rd : RegNum) :
    RoundTrip.Statement (.sbfm sf nBit immr imms rn rd) := by intro _; cases sf <;> cases nBit <;> rfl

theorem RoundTrip.bfm (sf : Bool) (nBit : Bool) (immr : BitVec 6) (imms : BitVec 6) (rn : RegNum) (rd : RegNum) :
    RoundTrip.Statement (.bfm sf nBit immr imms rn rd) := by intro _; cases sf <;> cases nBit <;> rfl

theorem RoundTrip.ubfm (sf : Bool) (nBit : Bool) (immr : BitVec 6) (imms : BitVec 6) (rn : RegNum) (rd : RegNum) :
    RoundTrip.Statement (.ubfm sf nBit immr imms rn rd) := by intro _; cases sf <;> cases nBit <;> rfl

theorem RoundTrip.extr (sf : Bool) (nBit : Bool) (rm : RegNum) (imms : BitVec 6) (rn : RegNum) (rd : RegNum) :
    RoundTrip.Statement (.extr sf nBit rm imms rn rd) := by intro _; cases sf <;> cases nBit <;> rfl

theorem RoundTrip.rbit (sf : Bool) (rn : RegNum) (rd : RegNum) :
    RoundTrip.Statement (.rbit sf rn rd) := by intro _; cases sf <;> rfl

theorem RoundTrip.rev16 (sf : Bool) (rn : RegNum) (rd : RegNum) :
    RoundTrip.Statement (.rev16 sf rn rd) := by intro _; cases sf <;> rfl

theorem RoundTrip.revW (rn : RegNum) (rd : RegNum) :
    RoundTrip.Statement (.revW rn rd) := by intro _; rfl

theorem RoundTrip.rev32 (rn : RegNum) (rd : RegNum) :
    RoundTrip.Statement (.rev32 rn rd) := by intro _; rfl

theorem RoundTrip.revX (rn : RegNum) (rd : RegNum) :
    RoundTrip.Statement (.revX rn rd) := by intro _; rfl

theorem RoundTrip.clz (sf : Bool) (rn : RegNum) (rd : RegNum) :
    RoundTrip.Statement (.clz sf rn rd) := by intro _; cases sf <;> rfl

theorem RoundTrip.cls (sf : Bool) (rn : RegNum) (rd : RegNum) :
    RoundTrip.Statement (.cls sf rn rd) := by intro _; cases sf <;> rfl

theorem RoundTrip.udiv (sf : Bool) (rm : RegNum) (rn : RegNum) (rd : RegNum) :
    RoundTrip.Statement (.udiv sf rm rn rd) := by intro _; cases sf <;> rfl

theorem RoundTrip.sdiv (sf : Bool) (rm : RegNum) (rn : RegNum) (rd : RegNum) :
    RoundTrip.Statement (.sdiv sf rm rn rd) := by intro _; cases sf <;> rfl

theorem RoundTrip.lslv (sf : Bool) (rm : RegNum) (rn : RegNum) (rd : RegNum) :
    RoundTrip.Statement (.lslv sf rm rn rd) := by intro _; cases sf <;> rfl

theorem RoundTrip.lsrv (sf : Bool) (rm : RegNum) (rn : RegNum) (rd : RegNum) :
    RoundTrip.Statement (.lsrv sf rm rn rd) := by intro _; cases sf <;> rfl

theorem RoundTrip.asrv (sf : Bool) (rm : RegNum) (rn : RegNum) (rd : RegNum) :
    RoundTrip.Statement (.asrv sf rm rn rd) := by intro _; cases sf <;> rfl

theorem RoundTrip.rorv (sf : Bool) (rm : RegNum) (rn : RegNum) (rd : RegNum) :
    RoundTrip.Statement (.rorv sf rm rn rd) := by intro _; cases sf <;> rfl

theorem RoundTrip.crc32b (rm : RegNum) (rn : RegNum) (rd : RegNum) :
    RoundTrip.Statement (.crc32b rm rn rd) := by intro _; rfl

theorem RoundTrip.crc32h (rm : RegNum) (rn : RegNum) (rd : RegNum) :
    RoundTrip.Statement (.crc32h rm rn rd) := by intro _; rfl

theorem RoundTrip.crc32w (rm : RegNum) (rn : RegNum) (rd : RegNum) :
    RoundTrip.Statement (.crc32w rm rn rd) := by intro _; rfl

theorem RoundTrip.crc32x (rm : RegNum) (rn : RegNum) (rd : RegNum) :
    RoundTrip.Statement (.crc32x rm rn rd) := by intro _; rfl

theorem RoundTrip.crc32cb (rm : RegNum) (rn : RegNum) (rd : RegNum) :
    RoundTrip.Statement (.crc32cb rm rn rd) := by intro _; rfl

theorem RoundTrip.crc32ch (rm : RegNum) (rn : RegNum) (rd : RegNum) :
    RoundTrip.Statement (.crc32ch rm rn rd) := by intro _; rfl

theorem RoundTrip.crc32cw (rm : RegNum) (rn : RegNum) (rd : RegNum) :
    RoundTrip.Statement (.crc32cw rm rn rd) := by intro _; rfl

theorem RoundTrip.crc32cx (rm : RegNum) (rn : RegNum) (rd : RegNum) :
    RoundTrip.Statement (.crc32cx rm rn rd) := by intro _; rfl

theorem RoundTrip.madd (sf : Bool) (rm : RegNum) (ra : RegNum) (rn : RegNum) (rd : RegNum) :
    RoundTrip.Statement (.madd sf rm ra rn rd) := by intro _; cases sf <;> rfl

theorem RoundTrip.msub (sf : Bool) (rm : RegNum) (ra : RegNum) (rn : RegNum) (rd : RegNum) :
    RoundTrip.Statement (.msub sf rm ra rn rd) := by intro _; cases sf <;> rfl

theorem RoundTrip.smaddl (rm : RegNum) (ra : RegNum) (rn : RegNum) (rd : RegNum) :
    RoundTrip.Statement (.smaddl rm ra rn rd) := by intro _; rfl

theorem RoundTrip.smsubl (rm : RegNum) (ra : RegNum) (rn : RegNum) (rd : RegNum) :
    RoundTrip.Statement (.smsubl rm ra rn rd) := by intro _; rfl

theorem RoundTrip.smulh (rm : RegNum) (ra : RegNum) (rn : RegNum) (rd : RegNum) :
    RoundTrip.Statement (.smulh rm ra rn rd) := by intro _; rfl

theorem RoundTrip.umaddl (rm : RegNum) (ra : RegNum) (rn : RegNum) (rd : RegNum) :
    RoundTrip.Statement (.umaddl rm ra rn rd) := by intro _; rfl

theorem RoundTrip.umsubl (rm : RegNum) (ra : RegNum) (rn : RegNum) (rd : RegNum) :
    RoundTrip.Statement (.umsubl rm ra rn rd) := by intro _; rfl

theorem RoundTrip.umulh (rm : RegNum) (ra : RegNum) (rn : RegNum) (rd : RegNum) :
    RoundTrip.Statement (.umulh rm ra rn rd) := by intro _; rfl

theorem RoundTrip.adr (immlo : BitVec 2) (immhi : BitVec 19) (rd : RegNum) :
    RoundTrip.Statement (.adr immlo immhi rd) := by intro _; rfl

theorem RoundTrip.adrp (immlo : BitVec 2) (immhi : BitVec 19) (rd : RegNum) :
    RoundTrip.Statement (.adrp immlo immhi rd) := by intro _; rfl

theorem RoundTrip.b (imm26 : BitVec 26) :
    RoundTrip.Statement (.b imm26) := by intro _; rfl

theorem RoundTrip.bl (imm26 : BitVec 26) :
    RoundTrip.Statement (.bl imm26) := by intro _; rfl

theorem RoundTrip.bCond (imm19 : BitVec 19) (cond : Cond) :
    RoundTrip.Statement (.bCond imm19 cond) := by intro _; rfl

theorem RoundTrip.cbz (sf : Bool) (imm19 : BitVec 19) (rt : RegNum) :
    RoundTrip.Statement (.cbz sf imm19 rt) := by intro _; cases sf <;> rfl

theorem RoundTrip.cbnz (sf : Bool) (imm19 : BitVec 19) (rt : RegNum) :
    RoundTrip.Statement (.cbnz sf imm19 rt) := by intro _; cases sf <;> rfl

theorem RoundTrip.tbz (b5 : Bool) (b40 : BitVec 5) (imm14 : BitVec 14) (rt : RegNum) :
    RoundTrip.Statement (.tbz b5 b40 imm14 rt) := by intro _; cases b5 <;> rfl

theorem RoundTrip.tbnz (b5 : Bool) (b40 : BitVec 5) (imm14 : BitVec 14) (rt : RegNum) :
    RoundTrip.Statement (.tbnz b5 b40 imm14 rt) := by intro _; cases b5 <;> rfl

theorem RoundTrip.br (rn : RegNum) :
    RoundTrip.Statement (.br rn) := by intro _; rfl

theorem RoundTrip.blr (rn : RegNum) :
    RoundTrip.Statement (.blr rn) := by intro _; rfl

theorem RoundTrip.ret (rn : RegNum) :
    RoundTrip.Statement (.ret rn) := by intro _; rfl

theorem RoundTrip.mrsNzcv (rt : RegNum) :
    RoundTrip.Statement (.mrsNzcv rt) := by intro _; rfl

theorem RoundTrip.msrNzcv (rt : RegNum) :
    RoundTrip.Statement (.msrNzcv rt) := by intro _; rfl

theorem RoundTrip.mrsFpcr (rt : RegNum) :
    RoundTrip.Statement (.mrsFpcr rt) := by intro _; rfl

theorem RoundTrip.msrFpcr (rt : RegNum) :
    RoundTrip.Statement (.msrFpcr rt) := by intro _; rfl

theorem RoundTrip.mrsRndr (rt : RegNum) :
    RoundTrip.Statement (.mrsRndr rt) := by intro _; rfl

theorem RoundTrip.mrsRndrrs (rt : RegNum) :
    RoundTrip.Statement (.mrsRndrrs rt) := by intro _; rfl

theorem RoundTrip.nop :
    RoundTrip.Statement (.nop) := by intro _; rfl

theorem RoundTrip.esb :
    RoundTrip.Statement (.esb) := by intro _; rfl

theorem RoundTrip.csdb :
    RoundTrip.Statement (.csdb) := by intro _; rfl

theorem RoundTrip.bti :
    RoundTrip.Statement (.bti) := by intro _; rfl

theorem RoundTrip.btiC :
    RoundTrip.Statement (.btiC) := by intro _; rfl

theorem RoundTrip.btiJ :
    RoundTrip.Statement (.btiJ) := by intro _; rfl

theorem RoundTrip.btiJc :
    RoundTrip.Statement (.btiJc) := by intro _; rfl

theorem RoundTrip.hint (imm7 : BitVec 7) : RoundTrip.Statement (.hint imm7) := by
  revert imm7; unfold RoundTrip.Statement; decide

theorem RoundTrip.clrex (crm : BitVec 4) :
    RoundTrip.Statement (.clrex crm) := by intro _; rfl

theorem RoundTrip.dsb (crm : BitVec 4) :
    RoundTrip.Statement (.dsb crm) := by intro _; rfl

theorem RoundTrip.dmb (crm : BitVec 4) :
    RoundTrip.Statement (.dmb crm) := by intro _; rfl

theorem RoundTrip.isb (crm : BitVec 4) :
    RoundTrip.Statement (.isb crm) := by intro _; rfl

theorem RoundTrip.sys (op1 : BitVec 3) (crn : BitVec 4) (crm : BitVec 4) (op2 : BitVec 3) (rt : RegNum) :
    RoundTrip.Statement (.sys op1 crn crm op2 rt) := by intro _; rfl

theorem RoundTrip.hlt (imm16 : BitVec 16) :
    RoundTrip.Statement (.hlt imm16) := by intro _; rfl

theorem RoundTrip.udf (imm16 : BitVec 16) :
    RoundTrip.Statement (.udf imm16) := by intro _; rfl

theorem RoundTrip.strbUnsignedOffset (imm12 : BitVec 12) (rn : RegNum) (rt : RegNum) :
    RoundTrip.Statement (.strbUnsignedOffset imm12 rn rt) := by intro _; rfl

theorem RoundTrip.sturb (imm9 : BitVec 9) (rn : RegNum) (rt : RegNum) :
    RoundTrip.Statement (.sturb imm9 rn rt) := by intro _; rfl

theorem RoundTrip.strbPostIndex (imm9 : BitVec 9) (rn : RegNum) (rt : RegNum) :
    RoundTrip.Statement (.strbPostIndex imm9 rn rt) := by intro _; rfl

theorem RoundTrip.strbPreIndex (imm9 : BitVec 9) (rn : RegNum) (rt : RegNum) :
    RoundTrip.Statement (.strbPreIndex imm9 rn rt) := by intro _; rfl

theorem RoundTrip.strbRegisterOffset (rm : RegNum) (ext : ExtendType) (scaled : Bool) (rn : RegNum) (rt : RegNum) :
    RoundTrip.Statement (.strbRegisterOffset rm ext scaled rn rt) := by intro _; cases ext <;> cases scaled <;> rfl

theorem RoundTrip.ldrbUnsignedOffset (imm12 : BitVec 12) (rn : RegNum) (rt : RegNum) :
    RoundTrip.Statement (.ldrbUnsignedOffset imm12 rn rt) := by intro _; rfl

theorem RoundTrip.ldurb (imm9 : BitVec 9) (rn : RegNum) (rt : RegNum) :
    RoundTrip.Statement (.ldurb imm9 rn rt) := by intro _; rfl

theorem RoundTrip.ldrbPostIndex (imm9 : BitVec 9) (rn : RegNum) (rt : RegNum) :
    RoundTrip.Statement (.ldrbPostIndex imm9 rn rt) := by intro _; rfl

theorem RoundTrip.ldrbPreIndex (imm9 : BitVec 9) (rn : RegNum) (rt : RegNum) :
    RoundTrip.Statement (.ldrbPreIndex imm9 rn rt) := by intro _; rfl

theorem RoundTrip.ldrbRegisterOffset (rm : RegNum) (ext : ExtendType) (scaled : Bool) (rn : RegNum) (rt : RegNum) :
    RoundTrip.Statement (.ldrbRegisterOffset rm ext scaled rn rt) := by intro _; cases ext <;> cases scaled <;> rfl

theorem RoundTrip.strhUnsignedOffset (imm12 : BitVec 12) (rn : RegNum) (rt : RegNum) :
    RoundTrip.Statement (.strhUnsignedOffset imm12 rn rt) := by intro _; rfl

theorem RoundTrip.sturh (imm9 : BitVec 9) (rn : RegNum) (rt : RegNum) :
    RoundTrip.Statement (.sturh imm9 rn rt) := by intro _; rfl

theorem RoundTrip.strhPostIndex (imm9 : BitVec 9) (rn : RegNum) (rt : RegNum) :
    RoundTrip.Statement (.strhPostIndex imm9 rn rt) := by intro _; rfl

theorem RoundTrip.strhPreIndex (imm9 : BitVec 9) (rn : RegNum) (rt : RegNum) :
    RoundTrip.Statement (.strhPreIndex imm9 rn rt) := by intro _; rfl

theorem RoundTrip.strhRegisterOffset (rm : RegNum) (ext : ExtendType) (scaled : Bool) (rn : RegNum) (rt : RegNum) :
    RoundTrip.Statement (.strhRegisterOffset rm ext scaled rn rt) := by intro _; cases ext <;> cases scaled <;> rfl

theorem RoundTrip.ldrhUnsignedOffset (imm12 : BitVec 12) (rn : RegNum) (rt : RegNum) :
    RoundTrip.Statement (.ldrhUnsignedOffset imm12 rn rt) := by intro _; rfl

theorem RoundTrip.ldurh (imm9 : BitVec 9) (rn : RegNum) (rt : RegNum) :
    RoundTrip.Statement (.ldurh imm9 rn rt) := by intro _; rfl

theorem RoundTrip.ldrhPostIndex (imm9 : BitVec 9) (rn : RegNum) (rt : RegNum) :
    RoundTrip.Statement (.ldrhPostIndex imm9 rn rt) := by intro _; rfl

theorem RoundTrip.ldrhPreIndex (imm9 : BitVec 9) (rn : RegNum) (rt : RegNum) :
    RoundTrip.Statement (.ldrhPreIndex imm9 rn rt) := by intro _; rfl

theorem RoundTrip.ldrhRegisterOffset (rm : RegNum) (ext : ExtendType) (scaled : Bool) (rn : RegNum) (rt : RegNum) :
    RoundTrip.Statement (.ldrhRegisterOffset rm ext scaled rn rt) := by intro _; cases ext <;> cases scaled <;> rfl

theorem RoundTrip.strWUnsignedOffset (imm12 : BitVec 12) (rn : RegNum) (rt : RegNum) :
    RoundTrip.Statement (.strWUnsignedOffset imm12 rn rt) := by intro _; rfl

theorem RoundTrip.sturW (imm9 : BitVec 9) (rn : RegNum) (rt : RegNum) :
    RoundTrip.Statement (.sturW imm9 rn rt) := by intro _; rfl

theorem RoundTrip.strWPostIndex (imm9 : BitVec 9) (rn : RegNum) (rt : RegNum) :
    RoundTrip.Statement (.strWPostIndex imm9 rn rt) := by intro _; rfl

theorem RoundTrip.strWPreIndex (imm9 : BitVec 9) (rn : RegNum) (rt : RegNum) :
    RoundTrip.Statement (.strWPreIndex imm9 rn rt) := by intro _; rfl

theorem RoundTrip.strWRegisterOffset (rm : RegNum) (ext : ExtendType) (scaled : Bool) (rn : RegNum) (rt : RegNum) :
    RoundTrip.Statement (.strWRegisterOffset rm ext scaled rn rt) := by intro _; cases ext <;> cases scaled <;> rfl

theorem RoundTrip.ldrWUnsignedOffset (imm12 : BitVec 12) (rn : RegNum) (rt : RegNum) :
    RoundTrip.Statement (.ldrWUnsignedOffset imm12 rn rt) := by intro _; rfl

theorem RoundTrip.ldurW (imm9 : BitVec 9) (rn : RegNum) (rt : RegNum) :
    RoundTrip.Statement (.ldurW imm9 rn rt) := by intro _; rfl

theorem RoundTrip.ldrWPostIndex (imm9 : BitVec 9) (rn : RegNum) (rt : RegNum) :
    RoundTrip.Statement (.ldrWPostIndex imm9 rn rt) := by intro _; rfl

theorem RoundTrip.ldrWPreIndex (imm9 : BitVec 9) (rn : RegNum) (rt : RegNum) :
    RoundTrip.Statement (.ldrWPreIndex imm9 rn rt) := by intro _; rfl

theorem RoundTrip.ldrWRegisterOffset (rm : RegNum) (ext : ExtendType) (scaled : Bool) (rn : RegNum) (rt : RegNum) :
    RoundTrip.Statement (.ldrWRegisterOffset rm ext scaled rn rt) := by intro _; cases ext <;> cases scaled <;> rfl

theorem RoundTrip.strXUnsignedOffset (imm12 : BitVec 12) (rn : RegNum) (rt : RegNum) :
    RoundTrip.Statement (.strXUnsignedOffset imm12 rn rt) := by intro _; rfl

theorem RoundTrip.sturX (imm9 : BitVec 9) (rn : RegNum) (rt : RegNum) :
    RoundTrip.Statement (.sturX imm9 rn rt) := by intro _; rfl

theorem RoundTrip.strXPostIndex (imm9 : BitVec 9) (rn : RegNum) (rt : RegNum) :
    RoundTrip.Statement (.strXPostIndex imm9 rn rt) := by intro _; rfl

theorem RoundTrip.strXPreIndex (imm9 : BitVec 9) (rn : RegNum) (rt : RegNum) :
    RoundTrip.Statement (.strXPreIndex imm9 rn rt) := by intro _; rfl

theorem RoundTrip.strXRegisterOffset (rm : RegNum) (ext : ExtendType) (scaled : Bool) (rn : RegNum) (rt : RegNum) :
    RoundTrip.Statement (.strXRegisterOffset rm ext scaled rn rt) := by intro _; cases ext <;> cases scaled <;> rfl

theorem RoundTrip.ldrXUnsignedOffset (imm12 : BitVec 12) (rn : RegNum) (rt : RegNum) :
    RoundTrip.Statement (.ldrXUnsignedOffset imm12 rn rt) := by intro _; rfl

theorem RoundTrip.ldurX (imm9 : BitVec 9) (rn : RegNum) (rt : RegNum) :
    RoundTrip.Statement (.ldurX imm9 rn rt) := by intro _; rfl

theorem RoundTrip.ldrXPostIndex (imm9 : BitVec 9) (rn : RegNum) (rt : RegNum) :
    RoundTrip.Statement (.ldrXPostIndex imm9 rn rt) := by intro _; rfl

theorem RoundTrip.ldrXPreIndex (imm9 : BitVec 9) (rn : RegNum) (rt : RegNum) :
    RoundTrip.Statement (.ldrXPreIndex imm9 rn rt) := by intro _; rfl

theorem RoundTrip.ldrXRegisterOffset (rm : RegNum) (ext : ExtendType) (scaled : Bool) (rn : RegNum) (rt : RegNum) :
    RoundTrip.Statement (.ldrXRegisterOffset rm ext scaled rn rt) := by intro _; cases ext <;> cases scaled <;> rfl

theorem RoundTrip.ldrsbXUnsignedOffset (imm12 : BitVec 12) (rn : RegNum) (rt : RegNum) :
    RoundTrip.Statement (.ldrsbXUnsignedOffset imm12 rn rt) := by intro _; rfl

theorem RoundTrip.ldursbX (imm9 : BitVec 9) (rn : RegNum) (rt : RegNum) :
    RoundTrip.Statement (.ldursbX imm9 rn rt) := by intro _; rfl

theorem RoundTrip.ldrsbXPostIndex (imm9 : BitVec 9) (rn : RegNum) (rt : RegNum) :
    RoundTrip.Statement (.ldrsbXPostIndex imm9 rn rt) := by intro _; rfl

theorem RoundTrip.ldrsbXPreIndex (imm9 : BitVec 9) (rn : RegNum) (rt : RegNum) :
    RoundTrip.Statement (.ldrsbXPreIndex imm9 rn rt) := by intro _; rfl

theorem RoundTrip.ldrsbXRegisterOffset (rm : RegNum) (ext : ExtendType) (scaled : Bool) (rn : RegNum) (rt : RegNum) :
    RoundTrip.Statement (.ldrsbXRegisterOffset rm ext scaled rn rt) := by intro _; cases ext <;> cases scaled <;> rfl

theorem RoundTrip.ldrsbWUnsignedOffset (imm12 : BitVec 12) (rn : RegNum) (rt : RegNum) :
    RoundTrip.Statement (.ldrsbWUnsignedOffset imm12 rn rt) := by intro _; rfl

theorem RoundTrip.ldursbW (imm9 : BitVec 9) (rn : RegNum) (rt : RegNum) :
    RoundTrip.Statement (.ldursbW imm9 rn rt) := by intro _; rfl

theorem RoundTrip.ldrsbWPostIndex (imm9 : BitVec 9) (rn : RegNum) (rt : RegNum) :
    RoundTrip.Statement (.ldrsbWPostIndex imm9 rn rt) := by intro _; rfl

theorem RoundTrip.ldrsbWPreIndex (imm9 : BitVec 9) (rn : RegNum) (rt : RegNum) :
    RoundTrip.Statement (.ldrsbWPreIndex imm9 rn rt) := by intro _; rfl

theorem RoundTrip.ldrsbWRegisterOffset (rm : RegNum) (ext : ExtendType) (scaled : Bool) (rn : RegNum) (rt : RegNum) :
    RoundTrip.Statement (.ldrsbWRegisterOffset rm ext scaled rn rt) := by intro _; cases ext <;> cases scaled <;> rfl

theorem RoundTrip.ldrshXUnsignedOffset (imm12 : BitVec 12) (rn : RegNum) (rt : RegNum) :
    RoundTrip.Statement (.ldrshXUnsignedOffset imm12 rn rt) := by intro _; rfl

theorem RoundTrip.ldurshX (imm9 : BitVec 9) (rn : RegNum) (rt : RegNum) :
    RoundTrip.Statement (.ldurshX imm9 rn rt) := by intro _; rfl

theorem RoundTrip.ldrshXPostIndex (imm9 : BitVec 9) (rn : RegNum) (rt : RegNum) :
    RoundTrip.Statement (.ldrshXPostIndex imm9 rn rt) := by intro _; rfl

theorem RoundTrip.ldrshXPreIndex (imm9 : BitVec 9) (rn : RegNum) (rt : RegNum) :
    RoundTrip.Statement (.ldrshXPreIndex imm9 rn rt) := by intro _; rfl

theorem RoundTrip.ldrshXRegisterOffset (rm : RegNum) (ext : ExtendType) (scaled : Bool) (rn : RegNum) (rt : RegNum) :
    RoundTrip.Statement (.ldrshXRegisterOffset rm ext scaled rn rt) := by intro _; cases ext <;> cases scaled <;> rfl

theorem RoundTrip.ldrshWUnsignedOffset (imm12 : BitVec 12) (rn : RegNum) (rt : RegNum) :
    RoundTrip.Statement (.ldrshWUnsignedOffset imm12 rn rt) := by intro _; rfl

theorem RoundTrip.ldurshW (imm9 : BitVec 9) (rn : RegNum) (rt : RegNum) :
    RoundTrip.Statement (.ldurshW imm9 rn rt) := by intro _; rfl

theorem RoundTrip.ldrshWPostIndex (imm9 : BitVec 9) (rn : RegNum) (rt : RegNum) :
    RoundTrip.Statement (.ldrshWPostIndex imm9 rn rt) := by intro _; rfl

theorem RoundTrip.ldrshWPreIndex (imm9 : BitVec 9) (rn : RegNum) (rt : RegNum) :
    RoundTrip.Statement (.ldrshWPreIndex imm9 rn rt) := by intro _; rfl

theorem RoundTrip.ldrshWRegisterOffset (rm : RegNum) (ext : ExtendType) (scaled : Bool) (rn : RegNum) (rt : RegNum) :
    RoundTrip.Statement (.ldrshWRegisterOffset rm ext scaled rn rt) := by intro _; cases ext <;> cases scaled <;> rfl

theorem RoundTrip.ldrswUnsignedOffset (imm12 : BitVec 12) (rn : RegNum) (rt : RegNum) :
    RoundTrip.Statement (.ldrswUnsignedOffset imm12 rn rt) := by intro _; rfl

theorem RoundTrip.ldursw (imm9 : BitVec 9) (rn : RegNum) (rt : RegNum) :
    RoundTrip.Statement (.ldursw imm9 rn rt) := by intro _; rfl

theorem RoundTrip.ldrswPostIndex (imm9 : BitVec 9) (rn : RegNum) (rt : RegNum) :
    RoundTrip.Statement (.ldrswPostIndex imm9 rn rt) := by intro _; rfl

theorem RoundTrip.ldrswPreIndex (imm9 : BitVec 9) (rn : RegNum) (rt : RegNum) :
    RoundTrip.Statement (.ldrswPreIndex imm9 rn rt) := by intro _; rfl

theorem RoundTrip.ldrswRegisterOffset (rm : RegNum) (ext : ExtendType) (scaled : Bool) (rn : RegNum) (rt : RegNum) :
    RoundTrip.Statement (.ldrswRegisterOffset rm ext scaled rn rt) := by intro _; cases ext <;> cases scaled <;> rfl

theorem RoundTrip.stpWOffset (imm7 : BitVec 7) (rt2 : RegNum) (rn : RegNum) (rt : RegNum) :
    RoundTrip.Statement (.stpWOffset imm7 rt2 rn rt) := by intro _; rfl

theorem RoundTrip.stpWPostIndex (imm7 : BitVec 7) (rt2 : RegNum) (rn : RegNum) (rt : RegNum) :
    RoundTrip.Statement (.stpWPostIndex imm7 rt2 rn rt) := by intro _; rfl

theorem RoundTrip.stpWPreIndex (imm7 : BitVec 7) (rt2 : RegNum) (rn : RegNum) (rt : RegNum) :
    RoundTrip.Statement (.stpWPreIndex imm7 rt2 rn rt) := by intro _; rfl

theorem RoundTrip.ldpWOffset (imm7 : BitVec 7) (rt2 : RegNum) (rn : RegNum) (rt : RegNum) :
    RoundTrip.Statement (.ldpWOffset imm7 rt2 rn rt) := by intro _; rfl

theorem RoundTrip.ldpWPostIndex (imm7 : BitVec 7) (rt2 : RegNum) (rn : RegNum) (rt : RegNum) :
    RoundTrip.Statement (.ldpWPostIndex imm7 rt2 rn rt) := by intro _; rfl

theorem RoundTrip.ldpWPreIndex (imm7 : BitVec 7) (rt2 : RegNum) (rn : RegNum) (rt : RegNum) :
    RoundTrip.Statement (.ldpWPreIndex imm7 rt2 rn rt) := by intro _; rfl

theorem RoundTrip.stpXOffset (imm7 : BitVec 7) (rt2 : RegNum) (rn : RegNum) (rt : RegNum) :
    RoundTrip.Statement (.stpXOffset imm7 rt2 rn rt) := by intro _; rfl

theorem RoundTrip.stpXPostIndex (imm7 : BitVec 7) (rt2 : RegNum) (rn : RegNum) (rt : RegNum) :
    RoundTrip.Statement (.stpXPostIndex imm7 rt2 rn rt) := by intro _; rfl

theorem RoundTrip.stpXPreIndex (imm7 : BitVec 7) (rt2 : RegNum) (rn : RegNum) (rt : RegNum) :
    RoundTrip.Statement (.stpXPreIndex imm7 rt2 rn rt) := by intro _; rfl

theorem RoundTrip.ldpXOffset (imm7 : BitVec 7) (rt2 : RegNum) (rn : RegNum) (rt : RegNum) :
    RoundTrip.Statement (.ldpXOffset imm7 rt2 rn rt) := by intro _; rfl

theorem RoundTrip.ldpXPostIndex (imm7 : BitVec 7) (rt2 : RegNum) (rn : RegNum) (rt : RegNum) :
    RoundTrip.Statement (.ldpXPostIndex imm7 rt2 rn rt) := by intro _; rfl

theorem RoundTrip.ldpXPreIndex (imm7 : BitVec 7) (rt2 : RegNum) (rn : RegNum) (rt : RegNum) :
    RoundTrip.Statement (.ldpXPreIndex imm7 rt2 rn rt) := by intro _; rfl

theorem RoundTrip.ldrWLiteral (imm19 : BitVec 19) (rt : RegNum) :
    RoundTrip.Statement (.ldrWLiteral imm19 rt) := by intro _; rfl

theorem RoundTrip.ldrXLiteral (imm19 : BitVec 19) (rt : RegNum) :
    RoundTrip.Statement (.ldrXLiteral imm19 rt) := by intro _; rfl

theorem RoundTrip.ldrswLiteral (imm19 : BitVec 19) (rt : RegNum) :
    RoundTrip.Statement (.ldrswLiteral imm19 rt) := by intro _; rfl

theorem RoundTrip.ldxr (size : AccessSize) (rn : RegNum) (rt : RegNum) :
    RoundTrip.Statement (.ldxr size rn rt) := by intro _; cases size <;> rfl

theorem RoundTrip.ldaxr (size : AccessSize) (rn : RegNum) (rt : RegNum) :
    RoundTrip.Statement (.ldaxr size rn rt) := by intro _; cases size <;> rfl

theorem RoundTrip.stxr (size : AccessSize) (rs : RegNum) (rn : RegNum) (rt : RegNum) :
    RoundTrip.Statement (.stxr size rs rn rt) := by intro _; cases size <;> rfl

theorem RoundTrip.stlxr (size : AccessSize) (rs : RegNum) (rn : RegNum) (rt : RegNum) :
    RoundTrip.Statement (.stlxr size rs rn rt) := by intro _; cases size <;> rfl

theorem RoundTrip.ldar (size : AccessSize) (rn : RegNum) (rt : RegNum) :
    RoundTrip.Statement (.ldar size rn rt) := by intro _; cases size <;> rfl

theorem RoundTrip.stlr (size : AccessSize) (rn : RegNum) (rt : RegNum) :
    RoundTrip.Statement (.stlr size rn rt) := by intro _; cases size <;> rfl

theorem RoundTrip.cas (size : AccessSize) (acq : Bool) (rs : RegNum) (rel : Bool) (rn : RegNum) (rt : RegNum) :
    RoundTrip.Statement (.cas size acq rs rel rn rt) := by intro _; cases size <;> cases acq <;> cases rel <;> rfl

theorem RoundTrip.swp (size : AccessSize) (acq : Bool) (rel : Bool) (rs : RegNum) (rn : RegNum) (rt : RegNum) :
    RoundTrip.Statement (.swp size acq rel rs rn rt) := by intro _; cases size <;> cases acq <;> cases rel <;> rfl

theorem RoundTrip.ldadd (size : AccessSize) (acq : Bool) (rel : Bool) (rs : RegNum) (rn : RegNum) (rt : RegNum) :
    RoundTrip.Statement (.ldadd size acq rel rs rn rt) := by intro _; cases size <;> cases acq <;> cases rel <;> rfl

theorem RoundTrip.ldclr (size : AccessSize) (acq : Bool) (rel : Bool) (rs : RegNum) (rn : RegNum) (rt : RegNum) :
    RoundTrip.Statement (.ldclr size acq rel rs rn rt) := by intro _; cases size <;> cases acq <;> cases rel <;> rfl

theorem RoundTrip.ldeor (size : AccessSize) (acq : Bool) (rel : Bool) (rs : RegNum) (rn : RegNum) (rt : RegNum) :
    RoundTrip.Statement (.ldeor size acq rel rs rn rt) := by intro _; cases size <;> cases acq <;> cases rel <;> rfl

theorem RoundTrip.ldset (size : AccessSize) (acq : Bool) (rel : Bool) (rs : RegNum) (rn : RegNum) (rt : RegNum) :
    RoundTrip.Statement (.ldset size acq rel rs rn rt) := by intro _; cases size <;> cases acq <;> cases rel <;> rfl

theorem RoundTrip.ldsmax (size : AccessSize) (acq : Bool) (rel : Bool) (rs : RegNum) (rn : RegNum) (rt : RegNum) :
    RoundTrip.Statement (.ldsmax size acq rel rs rn rt) := by intro _; cases size <;> cases acq <;> cases rel <;> rfl

theorem RoundTrip.ldsmin (size : AccessSize) (acq : Bool) (rel : Bool) (rs : RegNum) (rn : RegNum) (rt : RegNum) :
    RoundTrip.Statement (.ldsmin size acq rel rs rn rt) := by intro _; cases size <;> cases acq <;> cases rel <;> rfl

theorem RoundTrip.ldumax (size : AccessSize) (acq : Bool) (rel : Bool) (rs : RegNum) (rn : RegNum) (rt : RegNum) :
    RoundTrip.Statement (.ldumax size acq rel rs rn rt) := by intro _; cases size <;> cases acq <;> cases rel <;> rfl

theorem RoundTrip.ldumin (size : AccessSize) (acq : Bool) (rel : Bool) (rs : RegNum) (rn : RegNum) (rt : RegNum) :
    RoundTrip.Statement (.ldumin size acq rel rs rn rt) := by intro _; cases size <;> cases acq <;> cases rel <;> rfl

theorem RoundTrip.ldapr (size : AccessSize) (rn : RegNum) (rt : RegNum) :
    RoundTrip.Statement (.ldapr size rn rt) := by intro _; cases size <;> rfl

end Sys2Proof.Laws
end

