-- ==== Sys2Proof/Laws/Simulator.lean ====
section
/-! SUPPORT. What the simulator around the machine does (R52, R392): the machine inside it answers as it would
alone, but for the feature set an HLT restores. -/

namespace Sys2Proof.Machine

variable {m : Simulator} {i : Instr} {t : State} {imm16 : BitVec 16} {words : Nat}

theorem Simulator.after_save (h : m.machine.serviceOf imm16 = some (.saveFeatures words)) :
    m.after (.hlt imm16) t = { machine := t, snapshots := m.machine.features :: m.snapshots } := by
  simp [Simulator.after, h]

theorem Simulator.after_restore {fs : List Feature} {rest : List (List Feature)}
    (h : m.machine.serviceOf imm16 = some (.restoreFeatures words)) (hs : m.snapshots = fs :: rest) :
    m.after (.hlt imm16) t = { machine := { t with features := fs }, snapshots := rest } := by
  simp [Simulator.after, h, hs]

theorem Simulator.after_restore_none (h : m.machine.serviceOf imm16 = some (.restoreFeatures words))
    (hs : m.snapshots = []) : m.after (.hlt imm16) t = { machine := t, snapshots := [] } := by
  simp [Simulator.after, h, hs]

theorem Simulator.after_other (h : ∀ imm16, i ≠ .hlt imm16) : m.after i t = { m with machine := t } := by
  cases i <;> first | rfl | exact absurd rfl (h _)

/-- The machine after the host's part is the machine before it, but for the feature set. -/
theorem Simulator.after_machine : { (m.after i t).machine with features := t.features } = t := by
  unfold Simulator.after
  split
  · split <;> rfl
  · rfl

theorem Simulator.exec_next (h : Machine.exec i m.machine = .next t) : Simulator.exec i m = .next (m.after i t) := by
  simp [Simulator.exec, h]

theorem Simulator.exec_fault {f : Fault} (h : Machine.exec i m.machine = .fault f) : Simulator.exec i m = .fault f := by
  simp [Simulator.exec, h]

theorem Simulator.exec_refused {r : Refusal} (h : Machine.exec i m.machine = .refused r) :
    Simulator.exec i m = .refused r := by
  simp [Simulator.exec, h]

/-- A step of the simulator is a step of its machine, and the host's part where an instruction was run. -/
theorem Simulator.step_next (h : Machine.step m.machine = .next t) :
    (∃ i, decode m.machine.fetchWord = .instr i ∧ Simulator.step m = .next (m.after i t)) ∨
      Simulator.step m = .next { m with machine := t } := by
  simp only [Simulator.step, h]
  split
  · exact .inr rfl
  · split
    · next i e => exact .inl ⟨i, e, rfl⟩
    · exact .inr rfl

end Sys2Proof.Machine
end

