-- ==== Sys2Proof/Tests/Slice0.lean ====
section
/-! SUPPORT. Tests. Expected results are from spec/95_test_vectors.md (the section stands in each
heading), words from the encodings of spec/opcode_table.json with the fields set apart by underscores.
The last part gives, for each statement with hypotheses, states and operands that meet them. -/

namespace Sys2Proof.Tests

set_option maxRecDepth 20000
set_option exponentiation.threshold 4096

open Sys2Proof.Machine

/-! ## Small states -/

/-- The state after reset, with vector and predicate registers zero. -/
def quiet : State :=
  { State.reset with z := Vector.replicate 32 0#2048, p := Vector.replicate 16 0#256 }

/-- The state after reset with some general registers set. -/
def machine (xs : List (Nat × Word)) : State :=
  { quiet with x := xs.foldl (fun x e => x.setIfInBounds e.1 e.2) quiet.x }

/-- The same with the sixteen bytes of section 2.12 at 0x4000. -/
def inMemory (xs : List (Nat × Word)) : State :=
  (machine xs).memWrite 0x4000#64 16 0xFFEEDDCCBBAA99887766554433221100#128

/-- What is seen of the state after one step that runs the word `w`. -/
def after {α : Type} (s : State) (w : Nat) (see : State → α) : Option α :=
  match step (s.withFetchWord 32 w) with
  | .next t => some (see t)
  | .fault _ => none
  | .refused _ => none

/-- The same for a native command. -/
def afterNative {α : Type} (s : State) (c : NativeCmd) (see : State → α) : Option α :=
  match stepNative c s with
  | .next t => some (see t)
  | .fault _ => none
  | .refused _ => none

/-- Why a step that runs the word `w` stops. -/
def stop (s : State) (w : Nat) : Option (Fault ⊕ Refusal) :=
  match step (s.withFetchWord 32 w) with
  | .next _ => none
  | .fault f => some (.inl f)
  | .refused r => some (.inr r)

/-! ## Well-formedness: what each check refuses -/

theorem test_illFormed_shift_ror : (Instr.addShiftedRegister true .ror 2#5 1#6 1#5 0#5).wellFormed = false := by
  decide

theorem test_illFormed_amount :
    (Instr.subsShiftedRegister false .lsl 2#5 32#6 1#5 0#5).wellFormed = false ∧
    (Instr.eonShiftedRegister false .ror 2#5 63#6 1#5 0#5).wellFormed = false := by
  decide

theorem test_illFormed_extend_shift : (Instr.addExtendedRegister true 2#5 .uxtb 5#3 1#5 0#5).wellFormed = false := by
  decide

/-- All ones in an element, an element of one bit, and N = 1 in a 32-bit form (R116). -/
theorem test_illFormed_bitmask :
    (Instr.andImmediate true false 0#6 0b111111#6 1#5 0#5).wellFormed = false ∧
    (Instr.orrImmediate true true 0#6 0b111111#6 1#5 0#5).wellFormed = false ∧
    (Instr.eorImmediate true false 0#6 0b111110#6 1#5 0#5).wellFormed = false ∧
    (Instr.andsImmediate false true 0#6 0#6 1#5 0#5).wellFormed = false := by
  decide

theorem test_illFormed_move_wide : (Instr.movk false 2#2 1#16 0#5).wellFormed = false := by decide

theorem test_illFormed_bitfield :
    (Instr.sbfm true false 0#6 0#6 1#5 0#5).wellFormed = false ∧
    (Instr.bfm false false 32#6 0#6 1#5 0#5).wellFormed = false ∧
    (Instr.ubfm false false 0#6 32#6 1#5 0#5).wellFormed = false := by
  decide

theorem test_illFormed_extract :
    (Instr.extr false true 2#5 0#6 1#5 0#5).wellFormed = false ∧
    (Instr.extr false false 2#5 32#6 1#5 0#5).wellFormed = false := by
  decide

theorem test_illFormed_hint : ∀ imm7 ∈ [0#7, 16#7, 20#7, 32#7, 34#7, 36#7, 38#7], (Instr.hint imm7).wellFormed = false := by
  decide

theorem test_illFormed_register_offset :
    (Instr.ldrXRegisterOffset 3#5 .uxtb true 2#5 1#5).wellFormed = false ∧
    (Instr.strbRegisterOffset 3#5 .sxth false 2#5 1#5).wellFormed = false := by
  decide

theorem test_illFormed_native_registers :
    (NativeCmd.casp true false false 1#5 2#5 4#5).wellFormed = false ∧
    (NativeCmd.casp true false false 0#5 2#5 5#5).wellFormed = false := by
  decide

theorem test_illFormed_native_access :
    (NativeCmd.ldrVector .q (.register 3#5 .uxth true) 2#5 1#5).wellFormed = false ∧
    (NativeCmd.strVector .b (.register 3#5 .sxtb true) 2#5 1#5).wellFormed = false ∧
    (NativeCmd.ldpVector .b (.offset 0#7) 2#5 3#5 1#5).wellFormed = false ∧
    (NativeCmd.stpVector .h (.offset 0#7) 2#5 3#5 1#5).wellFormed = false ∧
    (NativeCmd.ldrVectorLiteral .h 0#19 1#5).wellFormed = false := by
  decide

theorem test_illFormed_native_convert :
    (NativeCmd.fcvt .single .single 1#5 0#5).wellFormed = false ∧
    (NativeCmd.fpToInt .double false true .zero 33 1#5 0#5).wellFormed = false ∧
    (NativeCmd.fpToInt .double true true .tieEven 1 1#5 0#5).wellFormed = false ∧
    (NativeCmd.intToFp .double false true 33 1#5 0#5).wellFormed = false ∧
    (NativeCmd.simdFpToInt .single .full true .zero 65 1#5 0#5).wellFormed = false ∧
    (NativeCmd.simdFpToInt .single .full true .tieAway 1 1#5 0#5).wellFormed = false ∧
    (NativeCmd.simdIntToFp .single .full true 65 1#5 0#5).wellFormed = false := by
  decide

theorem test_illFormed_native_lanes :
    (NativeCmd.simdArith (.shl 8) .b .full false false false .none 2#5 1#5 0#5).wellFormed = false ∧
    (NativeCmd.simdArith (.shr 0) .b .full false false false .none 2#5 1#5 0#5).wellFormed = false ∧
    (NativeCmd.simdWiden .add .x false false 2#5 1#5 0#5).wellFormed = false ∧
    (NativeCmd.simdWiden (.shl 32) .w false false 2#5 1#5 0#5).wellFormed = false ∧
    (NativeCmd.simdNarrow .x 1 false false .none false 1#5 0#5).wellFormed = false ∧
    (NativeCmd.simdNarrow .h 17 false false .none false 1#5 0#5).wellFormed = false := by
  decide

theorem test_illFormed_native_shape :
    (NativeCmd.simdReduce .addv .w .scalar 1#5 0#5).wellFormed = false ∧
    (NativeCmd.simdReduce .saddlv .x .full 1#5 0#5).wellFormed = false ∧
    (NativeCmd.simdTable false 0#2 .scalar 2#5 1#5 0#5).wellFormed = false ∧
    (NativeCmd.simdFpReduce .max .single .scalar 1#5 0#5).wellFormed = false ∧
    (NativeCmd.simdFpPairwise .add .single .scalar 2#5 1#5 0#5).wellFormed = false := by
  decide

theorem test_illFormed_native_permute :
    (NativeCmd.simdPermute .zip1 .b .scalar 2#5 1#5 0#5).wellFormed = false ∧
    (NativeCmd.simdPermute .trn2 .x .half 2#5 1#5 0#5).wellFormed = false ∧
    (NativeCmd.simdExt .scalar 0#4 2#5 1#5 0#5).wellFormed = false ∧
    (NativeCmd.simdExt .half 8#4 2#5 1#5 0#5).wellFormed = false ∧
    (NativeCmd.simdRev 32 .w .full 1#5 0#5).wellFormed = false ∧
    (NativeCmd.simdRev 128 .b .full 1#5 0#5).wellFormed = false := by
  decide

theorem test_illFormed_native_lane_forms :
    (NativeCmd.simdWiden .mulh .h false false 2#5 1#5 0#5).wellFormed = false ∧
    (NativeCmd.simdArith (.sra 0) .b .full false false false .none 2#5 1#5 0#5).wellFormed = false ∧
    (NativeCmd.simdArith (.sri 9) .b .full false false false .none 2#5 1#5 0#5).wellFormed = false ∧
    (NativeCmd.simdFcvtl .half false 1#5 0#5).wellFormed = false ∧
    (NativeCmd.simdFcvtn .half false 1#5 0#5).wellFormed = false ∧
    (NativeCmd.incDecVector false .plain .b 0#4 1#5).wellFormed = false := by
  decide

/-! ## Decoding: one word of every row -/

theorem test_decode_add_sub : ∀ e ∈ ([
    (0b1_00100010_0_101100111000_00110_11001#32, .addImmediate true false 0b101100111000#12 0b00110#5 0b11001#5),
    (0b1_01100010_1_101100111000_00110_11001#32, .addsImmediate true true 0b101100111000#12 0b00110#5 0b11001#5),
    (0b1_10100010_0_101100111000_00110_11001#32, .subImmediate true false 0b101100111000#12 0b00110#5 0b11001#5),
    (0b1_11100010_1_101100111000_00110_11001#32, .subsImmediate true true 0b101100111000#12 0b00110#5 0b11001#5),
    (0b1_0001011_01_0_10101_100111_00110_11001#32, .addShiftedRegister true .lsr 0b10101#5 0b100111#6 0b00110#5 0b11001#5),
    (0b1_0101011_01_0_10101_100111_00110_11001#32, .addsShiftedRegister true .lsr 0b10101#5 0b100111#6 0b00110#5 0b11001#5),
    (0b1_1001011_01_0_10101_100111_00110_11001#32, .subShiftedRegister true .lsr 0b10101#5 0b100111#6 0b00110#5 0b11001#5),
    (0b1_1101011_01_0_10101_100111_00110_11001#32, .subsShiftedRegister true .lsr 0b10101#5 0b100111#6 0b00110#5 0b11001#5),
    (0b1_0001011001_10101_101_011_00110_11001#32, .addExtendedRegister true 0b10101#5 .sxth 0b011#3 0b00110#5 0b11001#5),
    (0b1_0101011001_10101_110_011_00110_11001#32, .addsExtendedRegister true 0b10101#5 .sxtw 0b011#3 0b00110#5 0b11001#5),
    (0b1_1001011001_10101_010_011_00110_11001#32, .subExtendedRegister true 0b10101#5 .uxtw 0b011#3 0b00110#5 0b11001#5),
    (0b1_1101011001_10101_100_011_00110_11001#32, .subsExtendedRegister true 0b10101#5 .sxtb 0b011#3 0b00110#5 0b11001#5),
    (0b1_0011010000_10101_000000_00110_11001#32, .adc true 0b10101#5 0b00110#5 0b11001#5),
    (0b1_0111010000_10101_000000_00110_11001#32, .adcs true 0b10101#5 0b00110#5 0b11001#5),
    (0b1_1011010000_10101_000000_00110_11001#32, .sbc true 0b10101#5 0b00110#5 0b11001#5),
    (0b1_1111010000_10101_000000_00110_11001#32, .sbcs true 0b10101#5 0b00110#5 0b11001#5)] : List (BitVec 32 × Instr)), decode e.1 = .instr e.2 := by
  decide

theorem test_decode_logical_move : ∀ e ∈ ([
    (0b1_0001010_11_0_10101_100111_00110_11001#32, .andShiftedRegister true .ror 0b10101#5 0b100111#6 0b00110#5 0b11001#5),
    (0b1_0001010_11_1_10101_100111_00110_11001#32, .bicShiftedRegister true .ror 0b10101#5 0b100111#6 0b00110#5 0b11001#5),
    (0b1_0101010_11_0_10101_100111_00110_11001#32, .orrShiftedRegister true .ror 0b10101#5 0b100111#6 0b00110#5 0b11001#5),
    (0b1_0101010_11_1_10101_100111_00110_11001#32, .ornShiftedRegister true .ror 0b10101#5 0b100111#6 0b00110#5 0b11001#5),
    (0b1_1001010_11_0_10101_100111_00110_11001#32, .eorShiftedRegister true .ror 0b10101#5 0b100111#6 0b00110#5 0b11001#5),
    (0b1_1001010_11_1_10101_100111_00110_11001#32, .eonShiftedRegister true .ror 0b10101#5 0b100111#6 0b00110#5 0b11001#5),
    (0b1_1101010_11_0_10101_100111_00110_11001#32, .andsShiftedRegister true .ror 0b10101#5 0b100111#6 0b00110#5 0b11001#5),
    (0b1_1101010_11_1_10101_100111_00110_11001#32, .bicsShiftedRegister true .ror 0b10101#5 0b100111#6 0b00110#5 0b11001#5),
    (0b1_00100100_1_000101_010010_00110_11001#32, .andImmediate true true 0b000101#6 0b010010#6 0b00110#5 0b11001#5),
    (0b1_01100100_1_000101_010010_00110_11001#32, .orrImmediate true true 0b000101#6 0b010010#6 0b00110#5 0b11001#5),
    (0b1_10100100_1_000101_010010_00110_11001#32, .eorImmediate true true 0b000101#6 0b010010#6 0b00110#5 0b11001#5),
    (0b1_11100100_1_000101_010010_00110_11001#32, .andsImmediate true true 0b000101#6 0b010010#6 0b00110#5 0b11001#5),
    (0b1_00100101_10_1011001110001111_11001#32, .movn true 0b10#2 0b1011001110001111#16 0b11001#5),
    (0b1_10100101_10_1011001110001111_11001#32, .movz true 0b10#2 0b1011001110001111#16 0b11001#5),
    (0b1_11100101_10_1011001110001111_11001#32, .movk true 0b10#2 0b1011001110001111#16 0b11001#5)] : List (BitVec 32 × Instr)), decode e.1 = .instr e.2 := by
  decide

theorem test_decode_cond_bitfield : ∀ e ∈ ([
    (0b1_0111010010_10101_1011_00_00110_0_1011#32, .ccmnRegister true 0b10101#5 0b1011#4 0b00110#5 0b1011#4),
    (0b1_1111010010_10101_1011_00_00110_0_1011#32, .ccmpRegister true 0b10101#5 0b1011#4 0b00110#5 0b1011#4),
    (0b1_0111010010_10110_1011_10_00110_0_1011#32, .ccmnImmediate true 0b10110#5 0b1011#4 0b00110#5 0b1011#4),
    (0b1_1111010010_10110_1011_10_00110_0_1011#32, .ccmpImmediate true 0b10110#5 0b1011#4 0b00110#5 0b1011#4),
    (0b1_0011010100_10101_1011_00_00110_11001#32, .csel true 0b10101#5 0b1011#4 0b00110#5 0b11001#5),
    (0b1_0011010100_10101_1011_01_00110_11001#32, .csinc true 0b10101#5 0b1011#4 0b00110#5 0b11001#5),
    (0b1_1011010100_10101_1011_00_00110_11001#32, .csinv true 0b10101#5 0b1011#4 0b00110#5 0b11001#5),
    (0b1_1011010100_10101_1011_01_00110_11001#32, .csneg true 0b10101#5 0b1011#4 0b00110#5 0b11001#5),
    (0b1_00100110_1_000101_010010_00110_11001#32, .sbfm true true 0b000101#6 0b010010#6 0b00110#5 0b11001#5),
    (0b1_01100110_1_000101_010010_00110_11001#32, .bfm true true 0b000101#6 0b010010#6 0b00110#5 0b11001#5),
    (0b1_10100110_1_000101_010010_00110_11001#32, .ubfm true true 0b000101#6 0b010010#6 0b00110#5 0b11001#5),
    (0b1_00100111_1_0_10101_010010_00110_11001#32, .extr true true 0b10101#5 0b010010#6 0b00110#5 0b11001#5)] : List (BitVec 32 × Instr)), decode e.1 = .instr e.2 := by
  decide

theorem test_decode_one_two_sources : ∀ e ∈ ([
    (0b1_101101011000000000000_00110_11001#32, .rbit true 0b00110#5 0b11001#5),
    (0b1_101101011000000000001_00110_11001#32, .rev16 true 0b00110#5 0b11001#5),
    (0b0101101011000000000010_00110_11001#32, .revW 0b00110#5 0b11001#5),
    (0b1101101011000000000010_00110_11001#32, .rev32 0b00110#5 0b11001#5),
    (0b1101101011000000000011_00110_11001#32, .revX 0b00110#5 0b11001#5),
    (0b1_101101011000000000100_00110_11001#32, .clz true 0b00110#5 0b11001#5),
    (0b1_101101011000000000101_00110_11001#32, .cls true 0b00110#5 0b11001#5),
    (0b1_0011010110_10101_000010_00110_11001#32, .udiv true 0b10101#5 0b00110#5 0b11001#5),
    (0b1_0011010110_10101_000011_00110_11001#32, .sdiv true 0b10101#5 0b00110#5 0b11001#5),
    (0b1_0011010110_10101_001000_00110_11001#32, .lslv true 0b10101#5 0b00110#5 0b11001#5),
    (0b1_0011010110_10101_001001_00110_11001#32, .lsrv true 0b10101#5 0b00110#5 0b11001#5),
    (0b1_0011010110_10101_001010_00110_11001#32, .asrv true 0b10101#5 0b00110#5 0b11001#5),
    (0b1_0011010110_10101_001011_00110_11001#32, .rorv true 0b10101#5 0b00110#5 0b11001#5),
    (0b00011010110_10101_010000_00110_11001#32, .crc32b 0b10101#5 0b00110#5 0b11001#5),
    (0b00011010110_10101_010001_00110_11001#32, .crc32h 0b10101#5 0b00110#5 0b11001#5),
    (0b00011010110_10101_010010_00110_11001#32, .crc32w 0b10101#5 0b00110#5 0b11001#5),
    (0b10011010110_10101_010011_00110_11001#32, .crc32x 0b10101#5 0b00110#5 0b11001#5),
    (0b00011010110_10101_010100_00110_11001#32, .crc32cb 0b10101#5 0b00110#5 0b11001#5),
    (0b00011010110_10101_010101_00110_11001#32, .crc32ch 0b10101#5 0b00110#5 0b11001#5),
    (0b00011010110_10101_010110_00110_11001#32, .crc32cw 0b10101#5 0b00110#5 0b11001#5),
    (0b10011010110_10101_010111_00110_11001#32, .crc32cx 0b10101#5 0b00110#5 0b11001#5)] : List (BitVec 32 × Instr)), decode e.1 = .instr e.2 := by
  decide

theorem test_decode_three_sources : ∀ e ∈ ([
    (0b1_0011011000_10101_0_01010_00110_11001#32, .madd true 0b10101#5 0b01010#5 0b00110#5 0b11001#5),
    (0b1_0011011000_10101_1_01010_00110_11001#32, .msub true 0b10101#5 0b01010#5 0b00110#5 0b11001#5),
    (0b10011011001_10101_0_01010_00110_11001#32, .smaddl 0b10101#5 0b01010#5 0b00110#5 0b11001#5),
    (0b10011011001_10101_1_01010_00110_11001#32, .smsubl 0b10101#5 0b01010#5 0b00110#5 0b11001#5),
    (0b10011011010_10101_0_01010_00110_11001#32, .smulh 0b10101#5 0b01010#5 0b00110#5 0b11001#5),
    (0b10011011101_10101_0_01010_00110_11001#32, .umaddl 0b10101#5 0b01010#5 0b00110#5 0b11001#5),
    (0b10011011101_10101_1_01010_00110_11001#32, .umsubl 0b10101#5 0b01010#5 0b00110#5 0b11001#5),
    (0b10011011110_10101_0_01010_00110_11001#32, .umulh 0b10101#5 0b01010#5 0b00110#5 0b11001#5)] : List (BitVec 32 × Instr)), decode e.1 = .instr e.2 := by
  decide

theorem test_decode_branch : ∀ e ∈ ([
    (0b0_10_10000_1011001110001111000_11001#32, .adr 0b10#2 0b1011001110001111000#19 0b11001#5),
    (0b1_10_10000_1011001110001111000_11001#32, .adrp 0b10#2 0b1011001110001111000#19 0b11001#5),
    (0b000101_10110011100011110000101101#32, .b 0b10110011100011110000101101#26),
    (0b100101_10110011100011110000101101#32, .bl 0b10110011100011110000101101#26),
    (0b01010100_1011001110001111000_0_1011#32, .bCond 0b1011001110001111000#19 0b1011#4),
    (0b1_0110100_1011001110001111000_11001#32, .cbz true 0b1011001110001111000#19 0b11001#5),
    (0b1_0110101_1011001110001111000_11001#32, .cbnz true 0b1011001110001111000#19 0b11001#5),
    (0b1_0110110_10110_10110011100011_11001#32, .tbz true 0b10110#5 0b10110011100011#14 0b11001#5),
    (0b0_0110111_10110_10110011100011_11001#32, .tbnz false 0b10110#5 0b10110011100011#14 0b11001#5),
    (0b1101011000011111000000_00110_00000#32, .br 0b00110#5),
    (0b1101011000111111000000_00110_00000#32, .blr 0b00110#5),
    (0b1101011001011111000000_00110_00000#32, .ret 0b00110#5)] : List (BitVec 32 × Instr)), decode e.1 = .instr e.2 := by
  decide

theorem test_decode_system : ∀ e ∈ ([
    (0b110101010011101101000010000_11001#32, .mrsNzcv 0b11001#5),
    (0b110101010001101101000010000_11001#32, .msrNzcv 0b11001#5),
    (0b110101010011101101000100000_11001#32, .mrsFpcr 0b11001#5),
    (0b110101010001101101000100000_11001#32, .msrFpcr 0b11001#5),
    (0b110101010011101100100100000_11001#32, .mrsRndr 0b11001#5),
    (0b110101010011101100100100001_11001#32, .mrsRndrrs 0b11001#5),
    (0b11010101000000110010000000011111#32, .nop),
    (0b11010101000000110010001000011111#32, .esb),
    (0b11010101000000110010001010011111#32, .csdb),
    (0b11010101000000110010010000011111#32, .bti),
    (0b11010101000000110010010001011111#32, .btiC),
    (0b11010101000000110010010010011111#32, .btiJ),
    (0b11010101000000110010010011011111#32, .btiJc),
    (0b11010101000000110010_1010101_11111#32, .hint 0b1010101#7),
    (0b11010101000000110011_1011_01011111#32, .clrex 0b1011#4),
    (0b11010101000000110011_1011_10011111#32, .dsb 0b1011#4),
    (0b11010101000000110011_1011_10111111#32, .dmb 0b1011#4),
    (0b11010101000000110011_1011_11011111#32, .isb 0b1011#4),
    (0b1101010100001_101_1011_1011_101_11001#32, .sys 0b101#3 0b1011#4 0b1011#4 0b101#3 0b11001#5),
    (0b11010100010_1011001110001111_00000#32, .hlt 0b1011001110001111#16),
    (0b0000000000000000_1011001110001111#32, .udf 0b1011001110001111#16)] : List (BitVec 32 × Instr)), decode e.1 = .instr e.2 := by
  decide

theorem test_decode_unsigned_offset : ∀ e ∈ ([
    (0b0011100100_101100111000_00110_11001#32, .strbUnsignedOffset 0b101100111000#12 0b00110#5 0b11001#5),
    (0b0011100101_101100111000_00110_11001#32, .ldrbUnsignedOffset 0b101100111000#12 0b00110#5 0b11001#5),
    (0b0111100100_101100111000_00110_11001#32, .strhUnsignedOffset 0b101100111000#12 0b00110#5 0b11001#5),
    (0b0111100101_101100111000_00110_11001#32, .ldrhUnsignedOffset 0b101100111000#12 0b00110#5 0b11001#5),
    (0b1011100100_101100111000_00110_11001#32, .strWUnsignedOffset 0b101100111000#12 0b00110#5 0b11001#5),
    (0b1011100101_101100111000_00110_11001#32, .ldrWUnsignedOffset 0b101100111000#12 0b00110#5 0b11001#5),
    (0b1111100100_101100111000_00110_11001#32, .strXUnsignedOffset 0b101100111000#12 0b00110#5 0b11001#5),
    (0b1111100101_101100111000_00110_11001#32, .ldrXUnsignedOffset 0b101100111000#12 0b00110#5 0b11001#5),
    (0b0011100110_101100111000_00110_11001#32, .ldrsbXUnsignedOffset 0b101100111000#12 0b00110#5 0b11001#5),
    (0b0011100111_101100111000_00110_11001#32, .ldrsbWUnsignedOffset 0b101100111000#12 0b00110#5 0b11001#5),
    (0b0111100110_101100111000_00110_11001#32, .ldrshXUnsignedOffset 0b101100111000#12 0b00110#5 0b11001#5),
    (0b0111100111_101100111000_00110_11001#32, .ldrshWUnsignedOffset 0b101100111000#12 0b00110#5 0b11001#5),
    (0b1011100110_101100111000_00110_11001#32, .ldrswUnsignedOffset 0b101100111000#12 0b00110#5 0b11001#5)] : List (BitVec 32 × Instr)), decode e.1 = .instr e.2 := by
  decide

theorem test_decode_signed_offset_1 : ∀ e ∈ ([
    (0b00111000000_101100011_00_00110_11001#32, .sturb 0b101100011#9 0b00110#5 0b11001#5),
    (0b00111000000_101100011_01_00110_11001#32, .strbPostIndex 0b101100011#9 0b00110#5 0b11001#5),
    (0b00111000000_101100011_11_00110_11001#32, .strbPreIndex 0b101100011#9 0b00110#5 0b11001#5),
    (0b00111000010_101100011_00_00110_11001#32, .ldurb 0b101100011#9 0b00110#5 0b11001#5),
    (0b00111000010_101100011_01_00110_11001#32, .ldrbPostIndex 0b101100011#9 0b00110#5 0b11001#5),
    (0b00111000010_101100011_11_00110_11001#32, .ldrbPreIndex 0b101100011#9 0b00110#5 0b11001#5),
    (0b01111000000_101100011_00_00110_11001#32, .sturh 0b101100011#9 0b00110#5 0b11001#5),
    (0b01111000000_101100011_01_00110_11001#32, .strhPostIndex 0b101100011#9 0b00110#5 0b11001#5),
    (0b01111000000_101100011_11_00110_11001#32, .strhPreIndex 0b101100011#9 0b00110#5 0b11001#5),
    (0b01111000010_101100011_00_00110_11001#32, .ldurh 0b101100011#9 0b00110#5 0b11001#5),
    (0b01111000010_101100011_01_00110_11001#32, .ldrhPostIndex 0b101100011#9 0b00110#5 0b11001#5),
    (0b01111000010_101100011_11_00110_11001#32, .ldrhPreIndex 0b101100011#9 0b00110#5 0b11001#5),
    (0b10111000000_101100011_00_00110_11001#32, .sturW 0b101100011#9 0b00110#5 0b11001#5),
    (0b10111000000_101100011_01_00110_11001#32, .strWPostIndex 0b101100011#9 0b00110#5 0b11001#5),
    (0b10111000000_101100011_11_00110_11001#32, .strWPreIndex 0b101100011#9 0b00110#5 0b11001#5),
    (0b10111000010_101100011_00_00110_11001#32, .ldurW 0b101100011#9 0b00110#5 0b11001#5),
    (0b10111000010_101100011_01_00110_11001#32, .ldrWPostIndex 0b101100011#9 0b00110#5 0b11001#5),
    (0b10111000010_101100011_11_00110_11001#32, .ldrWPreIndex 0b101100011#9 0b00110#5 0b11001#5),
    (0b11111000000_101100011_00_00110_11001#32, .sturX 0b101100011#9 0b00110#5 0b11001#5)] : List (BitVec 32 × Instr)), decode e.1 = .instr e.2 := by
  decide

theorem test_decode_signed_offset_2 : ∀ e ∈ ([
    (0b11111000000_101100011_01_00110_11001#32, .strXPostIndex 0b101100011#9 0b00110#5 0b11001#5),
    (0b11111000000_101100011_11_00110_11001#32, .strXPreIndex 0b101100011#9 0b00110#5 0b11001#5),
    (0b11111000010_101100011_00_00110_11001#32, .ldurX 0b101100011#9 0b00110#5 0b11001#5),
    (0b11111000010_101100011_01_00110_11001#32, .ldrXPostIndex 0b101100011#9 0b00110#5 0b11001#5),
    (0b11111000010_101100011_11_00110_11001#32, .ldrXPreIndex 0b101100011#9 0b00110#5 0b11001#5),
    (0b00111000100_101100011_00_00110_11001#32, .ldursbX 0b101100011#9 0b00110#5 0b11001#5),
    (0b00111000100_101100011_01_00110_11001#32, .ldrsbXPostIndex 0b101100011#9 0b00110#5 0b11001#5),
    (0b00111000100_101100011_11_00110_11001#32, .ldrsbXPreIndex 0b101100011#9 0b00110#5 0b11001#5),
    (0b00111000110_101100011_00_00110_11001#32, .ldursbW 0b101100011#9 0b00110#5 0b11001#5),
    (0b00111000110_101100011_01_00110_11001#32, .ldrsbWPostIndex 0b101100011#9 0b00110#5 0b11001#5),
    (0b00111000110_101100011_11_00110_11001#32, .ldrsbWPreIndex 0b101100011#9 0b00110#5 0b11001#5),
    (0b01111000100_101100011_00_00110_11001#32, .ldurshX 0b101100011#9 0b00110#5 0b11001#5),
    (0b01111000100_101100011_01_00110_11001#32, .ldrshXPostIndex 0b101100011#9 0b00110#5 0b11001#5),
    (0b01111000100_101100011_11_00110_11001#32, .ldrshXPreIndex 0b101100011#9 0b00110#5 0b11001#5),
    (0b01111000110_101100011_00_00110_11001#32, .ldurshW 0b101100011#9 0b00110#5 0b11001#5),
    (0b01111000110_101100011_01_00110_11001#32, .ldrshWPostIndex 0b101100011#9 0b00110#5 0b11001#5),
    (0b01111000110_101100011_11_00110_11001#32, .ldrshWPreIndex 0b101100011#9 0b00110#5 0b11001#5),
    (0b10111000100_101100011_00_00110_11001#32, .ldursw 0b101100011#9 0b00110#5 0b11001#5),
    (0b10111000100_101100011_01_00110_11001#32, .ldrswPostIndex 0b101100011#9 0b00110#5 0b11001#5),
    (0b10111000100_101100011_11_00110_11001#32, .ldrswPreIndex 0b101100011#9 0b00110#5 0b11001#5)] : List (BitVec 32 × Instr)), decode e.1 = .instr e.2 := by
  decide

theorem test_decode_register_offset : ∀ e ∈ ([
    (0b00111000001_10101_110_1_10_00110_11001#32, .strbRegisterOffset 0b10101#5 .sxtw true 0b00110#5 0b11001#5),
    (0b00111000011_10101_110_0_10_00110_11001#32, .ldrbRegisterOffset 0b10101#5 .sxtw false 0b00110#5 0b11001#5),
    (0b01111000001_10101_110_1_10_00110_11001#32, .strhRegisterOffset 0b10101#5 .sxtw true 0b00110#5 0b11001#5),
    (0b01111000011_10101_110_0_10_00110_11001#32, .ldrhRegisterOffset 0b10101#5 .sxtw false 0b00110#5 0b11001#5),
    (0b10111000001_10101_110_1_10_00110_11001#32, .strWRegisterOffset 0b10101#5 .sxtw true 0b00110#5 0b11001#5),
    (0b10111000011_10101_110_0_10_00110_11001#32, .ldrWRegisterOffset 0b10101#5 .sxtw false 0b00110#5 0b11001#5),
    (0b11111000001_10101_110_1_10_00110_11001#32, .strXRegisterOffset 0b10101#5 .sxtw true 0b00110#5 0b11001#5),
    (0b11111000011_10101_110_0_10_00110_11001#32, .ldrXRegisterOffset 0b10101#5 .sxtw false 0b00110#5 0b11001#5),
    (0b00111000101_10101_110_1_10_00110_11001#32, .ldrsbXRegisterOffset 0b10101#5 .sxtw true 0b00110#5 0b11001#5),
    (0b00111000111_10101_110_0_10_00110_11001#32, .ldrsbWRegisterOffset 0b10101#5 .sxtw false 0b00110#5 0b11001#5),
    (0b01111000101_10101_110_1_10_00110_11001#32, .ldrshXRegisterOffset 0b10101#5 .sxtw true 0b00110#5 0b11001#5),
    (0b01111000111_10101_110_0_10_00110_11001#32, .ldrshWRegisterOffset 0b10101#5 .sxtw false 0b00110#5 0b11001#5),
    (0b10111000101_10101_110_1_10_00110_11001#32, .ldrswRegisterOffset 0b10101#5 .sxtw true 0b00110#5 0b11001#5)] : List (BitVec 32 × Instr)), decode e.1 = .instr e.2 := by
  decide

theorem test_decode_pair_literal : ∀ e ∈ ([
    (0b0010100100_1011001_01101_00110_11001#32, .stpWOffset 0b1011001#7 0b01101#5 0b00110#5 0b11001#5),
    (0b0010100010_1011001_01101_00110_11001#32, .stpWPostIndex 0b1011001#7 0b01101#5 0b00110#5 0b11001#5),
    (0b0010100110_1011001_01101_00110_11001#32, .stpWPreIndex 0b1011001#7 0b01101#5 0b00110#5 0b11001#5),
    (0b0010100101_1011001_01101_00110_11001#32, .ldpWOffset 0b1011001#7 0b01101#5 0b00110#5 0b11001#5),
    (0b0010100011_1011001_01101_00110_11001#32, .ldpWPostIndex 0b1011001#7 0b01101#5 0b00110#5 0b11001#5),
    (0b0010100111_1011001_01101_00110_11001#32, .ldpWPreIndex 0b1011001#7 0b01101#5 0b00110#5 0b11001#5),
    (0b1010100100_1011001_01101_00110_11001#32, .stpXOffset 0b1011001#7 0b01101#5 0b00110#5 0b11001#5),
    (0b1010100010_1011001_01101_00110_11001#32, .stpXPostIndex 0b1011001#7 0b01101#5 0b00110#5 0b11001#5),
    (0b1010100110_1011001_01101_00110_11001#32, .stpXPreIndex 0b1011001#7 0b01101#5 0b00110#5 0b11001#5),
    (0b1010100101_1011001_01101_00110_11001#32, .ldpXOffset 0b1011001#7 0b01101#5 0b00110#5 0b11001#5),
    (0b1010100011_1011001_01101_00110_11001#32, .ldpXPostIndex 0b1011001#7 0b01101#5 0b00110#5 0b11001#5),
    (0b1010100111_1011001_01101_00110_11001#32, .ldpXPreIndex 0b1011001#7 0b01101#5 0b00110#5 0b11001#5),
    (0b00011000_1011001110001111000_11001#32, .ldrWLiteral 0b1011001110001111000#19 0b11001#5),
    (0b01011000_1011001110001111000_11001#32, .ldrXLiteral 0b1011001110001111000#19 0b11001#5),
    (0b10011000_1011001110001111000_11001#32, .ldrswLiteral 0b1011001110001111000#19 0b11001#5)] : List (BitVec 32 × Instr)), decode e.1 = .instr e.2 := by
  decide

theorem test_decode_exclusive_atomic : ∀ e ∈ ([
    (0b01_00100001011111011111_00110_11001#32, .ldxr .h 0b00110#5 0b11001#5),
    (0b10_00100001011111111111_00110_11001#32, .ldaxr .w 0b00110#5 0b11001#5),
    (0b11_001000000_10011_011111_00110_11001#32, .stxr .x 0b10011#5 0b00110#5 0b11001#5),
    (0b00_001000000_10011_111111_00110_11001#32, .stlxr .b 0b10011#5 0b00110#5 0b11001#5),
    (0b01_00100011011111111111_00110_11001#32, .ldar .h 0b00110#5 0b11001#5),
    (0b10_00100010011111111111_00110_11001#32, .stlr .w 0b00110#5 0b11001#5),
    (0b11_0010001_1_1_10011_0_11111_00110_11001#32, .cas .x true 0b10011#5 false 0b00110#5 0b11001#5),
    (0b00_111000_0_1_1_10011_100000_00110_11001#32, .swp .b false true 0b10011#5 0b00110#5 0b11001#5),
    (0b01_111000_1_0_1_10011_000000_00110_11001#32, .ldadd .h true false 0b10011#5 0b00110#5 0b11001#5),
    (0b10_111000_0_1_1_10011_000100_00110_11001#32, .ldclr .w false true 0b10011#5 0b00110#5 0b11001#5),
    (0b11_111000_1_0_1_10011_001000_00110_11001#32, .ldeor .x true false 0b10011#5 0b00110#5 0b11001#5),
    (0b00_111000_0_1_1_10011_001100_00110_11001#32, .ldset .b false true 0b10011#5 0b00110#5 0b11001#5),
    (0b01_111000_1_0_1_10011_010000_00110_11001#32, .ldsmax .h true false 0b10011#5 0b00110#5 0b11001#5),
    (0b10_111000_0_1_1_10011_010100_00110_11001#32, .ldsmin .w false true 0b10011#5 0b00110#5 0b11001#5),
    (0b11_111000_1_0_1_10011_011000_00110_11001#32, .ldumax .x true false 0b10011#5 0b00110#5 0b11001#5),
    (0b00_111000_0_1_1_10011_011100_00110_11001#32, .ldumin .b false true 0b10011#5 0b00110#5 0b11001#5),
    (0b01_11100010111111110000_00110_11001#32, .ldapr .h 0b00110#5 0b11001#5)] : List (BitVec 32 × Instr)), decode e.1 = .instr e.2 := by
  decide

/-- The words of 2.6 and 2.7 that break a constraint of their format, and 0xFFFFFFFF of 2.13. -/
theorem test_decode_unallocated :
    ([0x8BC20420#32, 0x0B028020#32, 0x8B221420#32, 0x52C00020#32, 0x12400020#32, 0x9200FC20#32,
        0x9240FC20#32, 0x9200F820#32, 0x0A028020#32, 0xFFFFFFFF#32] : List (BitVec 32)).all
      fun w => decide (decode w = .rejected .unallocated) := by
  decide

/-! ## Steps -/

/-! ### Add and subtract (2.6) -/

theorem test_adds_w0_w0_1 :
    after (machine [(0, 0xFFFFFFFF#64)]) 0x31000400 (fun t => (t.xReg 0, t.nzcv.toBits)) = some (0x0#64, 0b0110#4) := by
  decide

theorem test_add_x0_x0_1 :
    after { machine [(0, 0xFFFFFFFFFFFFFFFF#64)] with nzcv := Nzcv.ofBits 0b1111#4 } 0x91000400 (fun t => (t.xReg 0, t.nzcv.toBits)) = some (0x0#64, 0b1111#4) := by
  decide

theorem test_subs_x0_x1_0 :
    after (machine [(1, 0x0#64)]) 0xF1000020 (fun t => (t.xReg 0, t.nzcv.toBits)) = some (0x0#64, 0b0110#4) := by
  decide

theorem test_subs_w0_w0_w1 :
    after (machine [(0, 0x80000000#64), (1, 0x1#64)]) 0x6B010000 (fun t => (t.xReg 0, t.nzcv.toBits)) = some (0x7FFFFFFF#64, 0b0011#4) := by
  decide

theorem test_add_x0_x1_x2_lsl_63 :
    after (machine [(1, 0x1#64), (2, 0x3#64)]) 0x8B02FC20 (fun t => (t.xReg 0, t.nzcv.toBits)) = some (0x8000000000000001#64, 0b0000#4) := by
  decide

theorem test_sub_x0_x1_x2_lsr_1 :
    after (machine [(1, 0x0#64), (2, 0x2#64)]) 0xCB420420 (fun t => (t.xReg 0, t.nzcv.toBits)) = some (0xFFFFFFFFFFFFFFFF#64, 0b0000#4) := by
  decide

theorem test_add_x0_sp_x1_uxtx :
    after { machine [(1, 0x7#64)] with sp := 0x7FF0#64 } 0x8B2163E0 (fun t => (t.xReg 0, t.nzcv.toBits)) = some (0x7FF7#64, 0b0000#4) := by
  decide

theorem test_add_x0_x1_w2_sxtw_4 :
    after (machine [(1, 0x100#64), (2, 0xFFFFFFFF#64)]) 0x8B22D020 (fun t => (t.xReg 0, t.nzcv.toBits)) = some (0xF0#64, 0b0000#4) := by
  decide

theorem test_subs_x0_x1_w2_uxtb :
    after (machine [(1, 0xFF#64), (2, 0x1FF#64)]) 0xEB220020 (fun t => (t.xReg 0, t.nzcv.toBits)) = some (0x0#64, 0b0110#4) := by
  decide

theorem test_adcs_x0_x1_x2 :
    after { machine [(1, 0xFFFFFFFFFFFFFFFF#64), (2, 0xFFFFFFFFFFFFFFFF#64)] with nzcv := Nzcv.ofBits 0b0010#4 } 0xBA020020 (fun t => (t.xReg 0, t.nzcv.toBits)) = some (0xFFFFFFFFFFFFFFFF#64, 0b1010#4) := by
  decide

theorem test_adc_w0_w1_w2 :
    after { machine [(1, 0xFFFFFFFF#64), (2, 0x0#64)] with nzcv := Nzcv.ofBits 0b0010#4 } 0x1A020020 (fun t => (t.xReg 0, t.nzcv.toBits)) = some (0x0#64, 0b0010#4) := by
  decide

theorem test_sbcs_x0_x1_x2 :
    after { machine [(1, 0x0#64), (2, 0x0#64)] with nzcv := Nzcv.ofBits 0b0010#4 } 0xFA020020 (fun t => (t.xReg 0, t.nzcv.toBits)) = some (0x0#64, 0b0110#4) := by
  decide

theorem test_sbcs_x0_x1_x2_case2 :
    after (machine [(1, 0x0#64), (2, 0x0#64)]) 0xFA020020 (fun t => (t.xReg 0, t.nzcv.toBits)) = some (0xFFFFFFFFFFFFFFFF#64, 0b1000#4) := by
  decide

theorem test_sbc_x0_xzr_x1 :
    after (machine [(1, 0x1#64)]) 0xDA0103E0 (fun t => (t.xReg 0, t.nzcv.toBits)) = some (0xFFFFFFFFFFFFFFFE#64, 0b0000#4) := by
  decide

/-! ### Logical and move wide (2.7) -/

theorem test_ands_w0_w1_w2 :
    after { machine [(1, 0x80000000#64), (2, 0xFFFFFFFF#64)] with nzcv := Nzcv.ofBits 0b0011#4 } 0x6A020020 (fun t => (t.xReg 0, t.nzcv.toBits)) = some (0x80000000#64, 0b1000#4) := by
  decide

theorem test_bics_x0_x1_x2 :
    after { machine [(1, 0xFFFFFFFFFFFFFFFF#64), (2, 0x7FFFFFFFFFFFFFFF#64)] with nzcv := Nzcv.ofBits 0b0011#4 } 0xEA220020 (fun t => (t.xReg 0, t.nzcv.toBits)) = some (0x8000000000000000#64, 0b1000#4) := by
  decide

theorem test_orr_w0_wzr_w1 :
    after (machine [(1, 0xDEADBEEF12345678#64)]) 0x2A0103E0 (fun t => (t.xReg 0, t.nzcv.toBits)) = some (0x12345678#64, 0b0000#4) := by
  decide

theorem test_orn_x0_xzr_x1 :
    after (machine [(1, 0xF0F0F0F0F0F0F0F#64)]) 0xAA2103E0 (fun t => (t.xReg 0, t.nzcv.toBits)) = some (0xF0F0F0F0F0F0F0F0#64, 0b0000#4) := by
  decide

theorem test_eor_x0_x1_x1 :
    after (machine [(1, 0x1234#64)]) 0xCA010020 (fun t => (t.xReg 0, t.nzcv.toBits)) = some (0x0#64, 0b0000#4) := by
  decide

theorem test_eon_x0_x1_x2_asr_63 :
    after (machine [(1, 0x0#64), (2, 0x8000000000000000#64)]) 0xCAA2FC20 (fun t => (t.xReg 0, t.nzcv.toBits)) = some (0x0#64, 0b0000#4) := by
  decide

theorem test_and_x0_x1_x2_ror_4 :
    after (machine [(1, 0xFFFFFFFFFFFFFFFF#64), (2, 0xF#64)]) 0x8AC21020 (fun t => (t.xReg 0, t.nzcv.toBits)) = some (0xF000000000000000#64, 0b0000#4) := by
  decide

theorem test_bic_w0_w1_w2_lsl_31 :
    after (machine [(1, 0xFFFFFFFF#64), (2, 0x1#64)]) 0xA227C20 (fun t => (t.xReg 0, t.nzcv.toBits)) = some (0x7FFFFFFF#64, 0b0000#4) := by
  decide

theorem test_and_w0_w1_0xff :
    after (machine [(1, 0x12345678#64)]) 0x12001C20 (fun t => (t.xReg 0, t.nzcv.toBits)) = some (0x78#64, 0b0000#4) := by
  decide

theorem test_orr_x0_xzr_0x5555555555555555 :
    after (machine [(1, 0xFFFFFFFF12345678#64)]) 0xB200F3E0 (fun t => (t.xReg 0, t.nzcv.toBits)) = some (0x5555555555555555#64, 0b0000#4) := by
  decide

theorem test_eor_w0_w1_0xffff0000 :
    after (machine [(1, 0x12345678#64)]) 0x52103C20 (fun t => (t.xReg 0, t.nzcv.toBits)) = some (0xEDCB5678#64, 0b0000#4) := by
  decide

theorem test_ands_x0_x1_0x8000000000000000 :
    after (machine [(1, 0xFFFFFFFF12345678#64)]) 0xF2410020 (fun t => (t.xReg 0, t.nzcv.toBits)) = some (0x8000000000000000#64, 0b1000#4) := by
  decide

theorem test_and_x0_x1_0x00ff00ff00ff00ff :
    after (machine [(1, 0xFFFFFFFF12345678#64)]) 0x92009C20 (fun t => (t.xReg 0, t.nzcv.toBits)) = some (0xFF00FF00340078#64, 0b0000#4) := by
  decide

theorem test_movz_w0_0xffff_lsl_16 :
    after (machine []) 0x52BFFFE0 (fun t => (t.xReg 0, t.nzcv.toBits)) = some (0xFFFF0000#64, 0b0000#4) := by
  decide

theorem test_movn_x0_0 :
    after (machine []) 0x92800000 (fun t => (t.xReg 0, t.nzcv.toBits)) = some (0xFFFFFFFFFFFFFFFF#64, 0b0000#4) := by
  decide

theorem test_movk_w0_0xabcd_lsl_16 :
    after (machine [(0, 0xFFFFFFFF11112222#64)]) 0x72B579A0 (fun t => (t.xReg 0, t.nzcv.toBits)) = some (0xABCD2222#64, 0b0000#4) := by
  decide

/-! ### Conditional compare and select (2.8) -/

theorem test_ccmp_x1_x2_0_eq :
    after { machine [(1, 0x3#64), (2, 0x5#64)] with nzcv := Nzcv.ofBits 0b0100#4 } 0xFA420020 (fun t => (t.xReg 0, t.nzcv.toBits)) = some (0xBADBEEF#64, 0b1000#4) := by
  decide

theorem test_ccmp_x1_x2_0_eq_case2 :
    after (machine [(1, 0x3#64), (2, 0x5#64)]) 0xFA420020 (fun t => (t.xReg 0, t.nzcv.toBits)) = some (0xBADBEEF#64, 0b0000#4) := by
  decide

theorem test_ccmn_w1_1_8_vc :
    after (machine [(1, 0x7FFFFFFF#64)]) 0x3A417828 (fun t => (t.xReg 0, t.nzcv.toBits)) = some (0xBADBEEF#64, 0b1001#4) := by
  decide

theorem test_ccmp_w1_0_5_hi :
    after { machine [(1, 0x0#64)] with nzcv := Nzcv.ofBits 0b0110#4 } 0x7A408825 (fun t => (t.xReg 0, t.nzcv.toBits)) = some (0xBADBEEF#64, 0b0101#4) := by
  decide

theorem test_csel_x0_x1_x2_gt :
    after (machine [(1, 0xAAAA#64), (2, 0xBBBB#64)]) 0x9A82C020 (fun t => (t.xReg 0, t.nzcv.toBits)) = some (0xAAAA#64, 0b0000#4) := by
  decide

theorem test_csel_x0_x1_x2_gt_case2 :
    after { machine [(1, 0xAAAA#64), (2, 0xBBBB#64)] with nzcv := Nzcv.ofBits 0b0100#4 } 0x9A82C020 (fun t => (t.xReg 0, t.nzcv.toBits)) = some (0xBBBB#64, 0b0100#4) := by
  decide

theorem test_csinc_x0_x1_x2_eq :
    after (machine [(1, 0x0#64), (2, 0xFFFFFFFFFFFFFFFF#64)]) 0x9A820420 (fun t => (t.xReg 0, t.nzcv.toBits)) = some (0x0#64, 0b0000#4) := by
  decide

theorem test_csinv_w0_wzr_wzr_ne :
    after { machine [] with nzcv := Nzcv.ofBits 0b0100#4 } 0x5A9F13E0 (fun t => (t.xReg 0, t.nzcv.toBits)) = some (0xFFFFFFFF#64, 0b0100#4) := by
  decide

theorem test_csneg_x0_x1_x2_mi :
    after (machine [(1, 0x1#64), (2, 0x8000000000000000#64)]) 0xDA824420 (fun t => (t.xReg 0, t.nzcv.toBits)) = some (0x8000000000000000#64, 0b0000#4) := by
  decide

/-! ### Multiply and variable shifts (2.10) -/

theorem test_madd_w0_w1_w2_w3 :
    after (machine [(1, 0xFFFFFFFF0000FFFF#64), (2, 0xFFFFFFFF0000FFFF#64), (3, 0xFFFFFFFF00000001#64)]) 0x1B020C20 (fun t => (t.xReg 0, t.nzcv.toBits)) = some (0xFFFE0002#64, 0b0000#4) := by
  decide

theorem test_msub_x0_x1_x2_x3 :
    after (machine [(1, 0x2#64), (2, 0x3#64), (3, 0x5#64)]) 0x9B028C20 (fun t => (t.xReg 0, t.nzcv.toBits)) = some (0xFFFFFFFFFFFFFFFF#64, 0b0000#4) := by
  decide

theorem test_smaddl_x0_w1_w2_x3 :
    after (machine [(1, 0x1234567880000000#64), (2, 0x80000000#64), (3, 0x1#64)]) 0x9B220C20 (fun t => (t.xReg 0, t.nzcv.toBits)) = some (0x4000000000000001#64, 0b0000#4) := by
  decide

theorem test_umaddl_x0_w1_w2_x3 :
    after (machine [(1, 0x1234567880000000#64), (2, 0x80000000#64), (3, 0x1#64)]) 0x9BA20C20 (fun t => (t.xReg 0, t.nzcv.toBits)) = some (0x4000000000000001#64, 0b0000#4) := by
  decide

theorem test_smsubl_x0_w1_w2_x3 :
    after (machine [(1, 0xFFFFFFFF#64), (2, 0xFFFFFFFF#64), (3, 0x0#64)]) 0x9B228C20 (fun t => (t.xReg 0, t.nzcv.toBits)) = some (0xFFFFFFFFFFFFFFFF#64, 0b0000#4) := by
  decide

theorem test_umsubl_x0_w1_w2_x3 :
    after (machine [(1, 0x1#64), (2, 0x1#64), (3, 0x0#64)]) 0x9BA28C20 (fun t => (t.xReg 0, t.nzcv.toBits)) = some (0xFFFFFFFFFFFFFFFF#64, 0b0000#4) := by
  decide

theorem test_lslv_w0_w1_w2 :
    after (machine [(1, 0x1#64), (2, 0x20#64)]) 0x1AC22020 (fun t => (t.xReg 0, t.nzcv.toBits)) = some (0x1#64, 0b0000#4) := by
  decide

theorem test_lslv_w0_w1_w2_case2 :
    after (machine [(1, 0x1#64), (2, 0xFFFFFFFF0000003F#64)]) 0x1AC22020 (fun t => (t.xReg 0, t.nzcv.toBits)) = some (0x80000000#64, 0b0000#4) := by
  decide

theorem test_lsrv_x0_x1_x2 :
    after (machine [(1, 0x8000000000000000#64), (2, 0xFFFFFFFFFFFFFFFF#64)]) 0x9AC22420 (fun t => (t.xReg 0, t.nzcv.toBits)) = some (0x1#64, 0b0000#4) := by
  decide

theorem test_asrv_w0_w1_w2 :
    after (machine [(1, 0x80000000#64), (2, 0x1F#64)]) 0x1AC22820 (fun t => (t.xReg 0, t.nzcv.toBits)) = some (0xFFFFFFFF#64, 0b0000#4) := by
  decide

theorem test_rorv_x0_x1_x2 :
    after (machine [(1, 0x1#64), (2, 0x1#64)]) 0x9AC22C20 (fun t => (t.xReg 0, t.nzcv.toBits)) = some (0x8000000000000000#64, 0b0000#4) := by
  decide

/-! ### PC-relative addresses and branches (2.11) -/

theorem test_adr_x0_1048576 :
    after { machine [] with pc := 0x200000#64 } 0x10800000 (fun t => (t.pc, t.xReg 0)) = some (0x200004#64, 0x100000#64) := by
  decide

theorem test_adrp_x0_0 :
    after { machine [] with pc := 0x1FFC#64 } 0x90000000 (fun t => (t.pc, t.xReg 0)) = some (0x2000#64, 0x1000#64) := by
  decide

theorem test_b_0 :
    after (machine []) 0x14000000 (fun t => t.pc) = some 0x1000#64 := by
  decide

theorem test_bl_4 :
    after (machine []) 0x97FFFFFF (fun t => (t.pc, t.xReg 30)) = some (0xFFC#64, 0x1004#64) := by
  decide

theorem test_b_lt_8 :
    after { machine [] with nzcv := Nzcv.ofBits 0b1000#4 } 0x5400004B (fun t => t.pc) = some 0x1008#64 := by
  decide

theorem test_cbz_x0_8 :
    after (machine [(0, 0x100000000#64)]) 0xB4000040 (fun t => t.pc) = some 0x1004#64 := by
  decide

theorem test_cbz_w0_8 :
    after (machine [(0, 0x100000000#64)]) 0x34000040 (fun t => t.pc) = some 0x1008#64 := by
  decide

theorem test_cbnz_xzr_8 :
    after (machine []) 0xB500005F (fun t => t.pc) = some 0x1004#64 := by
  decide

theorem test_tbz_x0_63_8 :
    after (machine [(0, 0x7FFFFFFFFFFFFFFF#64)]) 0xB6F80040 (fun t => t.pc) = some 0x1008#64 := by
  decide

theorem test_tbnz_w0_31_8 :
    after (machine [(0, 0x80000000#64)]) 0x37FFFFC0 (fun t => t.pc) = some 0xFF8#64 := by
  decide

theorem test_br_x1 :
    after (machine [(1, 0x2002#64)]) 0xD61F0020 (fun t => t.pc) = some 0x2002#64 := by
  decide

theorem test_blr_x30 :
    after (machine [(30, 0x3000#64)]) 0xD63F03C0 (fun t => (t.pc, t.xReg 30)) = some (0x3000#64, 0x1004#64) := by
  decide

theorem test_ret_x5 :
    after (machine [(5, 0x0#64)]) 0xD65F00A0 (fun t => t.pc) = some 0x0#64 := by
  decide

/-! ### Loads, stores and atomics (2.12) -/

theorem test_ldr_x1_x2_8 :
    after (inMemory [(2, 0x4000#64), (0, 0x102030405060708#64)]) 0xF9400441 (fun t => t.xReg 1) = some 0xFFEEDDCCBBAA9988#64 := by
  decide

theorem test_ldr_w1_x2_4 :
    after (inMemory [(2, 0x4000#64), (0, 0x102030405060708#64)]) 0xB9400441 (fun t => t.xReg 1) = some 0x77665544#64 := by
  decide

theorem test_ldrh_w1_x2_2 :
    after (inMemory [(2, 0x4000#64), (0, 0x102030405060708#64)]) 0x79400441 (fun t => t.xReg 1) = some 0x3322#64 := by
  decide

theorem test_ldrb_w1_x2_15 :
    after (inMemory [(2, 0x4000#64), (0, 0x102030405060708#64)]) 0x39403C41 (fun t => t.xReg 1) = some 0xFF#64 := by
  decide

theorem test_ldur_x1_x2_1 :
    after (inMemory [(2, 0x4000#64), (0, 0x102030405060708#64)]) 0xF8401041 (fun t => t.xReg 1) = some 0x8877665544332211#64 := by
  decide

theorem test_ldrsb_x1_x2_15 :
    after (inMemory [(2, 0x4000#64), (0, 0x102030405060708#64)]) 0x39803C41 (fun t => t.xReg 1) = some 0xFFFFFFFFFFFFFFFF#64 := by
  decide

theorem test_ldrsb_w1_x2_15 :
    after (inMemory [(2, 0x4000#64), (0, 0x102030405060708#64)]) 0x39C03C41 (fun t => t.xReg 1) = some 0xFFFFFFFF#64 := by
  decide

theorem test_ldrsh_x1_x2_8 :
    after (inMemory [(2, 0x4000#64), (0, 0x102030405060708#64)]) 0x79801041 (fun t => t.xReg 1) = some 0xFFFFFFFFFFFF9988#64 := by
  decide

theorem test_ldrsh_w1_x2_2 :
    after (inMemory [(2, 0x4000#64), (0, 0x102030405060708#64)]) 0x79C00441 (fun t => t.xReg 1) = some 0x3322#64 := by
  decide

theorem test_ldrsw_x1_x2_12 :
    after (inMemory [(2, 0x4000#64), (0, 0x102030405060708#64)]) 0xB9800C41 (fun t => t.xReg 1) = some 0xFFFFFFFFFFEEDDCC#64 := by
  decide

theorem test_ldr_x1_x2_8_case2 :
    after (inMemory [(2, 0x4000#64), (0, 0x102030405060708#64)]) 0xF8408441 (fun t => (t.xReg 1, t.xReg 2)) = some (0x7766554433221100#64, 0x4008#64) := by
  decide

theorem test_ldr_x1_x2_8_case3 :
    after (inMemory [(2, 0x4000#64), (0, 0x102030405060708#64)]) 0xF8408C41 (fun t => (t.xReg 1, t.xReg 2)) = some (0xFFEEDDCCBBAA9988#64, 0x4008#64) := by
  decide

theorem test_ldr_x1_x2_x3_lsl_3 :
    after (inMemory [(2, 0x4000#64), (0, 0x102030405060708#64), (3, 0x1#64)]) 0xF8637841 (fun t => t.xReg 1) = some 0xFFEEDDCCBBAA9988#64 := by
  decide

theorem test_ldr_w1_x2_w3_sxtw :
    after (inMemory [(2, 0x4000#64), (0, 0x102030405060708#64), (3, 0x4#64)]) 0xB863C841 (fun t => t.xReg 1) = some 0x77665544#64 := by
  decide

theorem test_str_x0_x2 :
    after (inMemory [(2, 0x4000#64), (0, 0x102030405060708#64)]) 0xF9000040 (fun t => t.memRead 0x4000#64 16) = some 0xFFEEDDCCBBAA99880102030405060708#128 := by
  decide

theorem test_str_w0_x2_4 :
    after (inMemory [(2, 0x4000#64), (0, 0x102030405060708#64)]) 0xB9000440 (fun t => t.memRead 0x4000#64 16) = some 0xFFEEDDCCBBAA99880506070833221100#128 := by
  decide

theorem test_strh_w0_x2_2 :
    after (inMemory [(2, 0x4000#64), (0, 0x102030405060708#64)]) 0x79000440 (fun t => t.memRead 0x4000#64 16) = some 0xFFEEDDCCBBAA99887766554407081100#128 := by
  decide

theorem test_strb_w0_x2_1 :
    after (inMemory [(2, 0x4000#64), (0, 0x102030405060708#64)]) 0x39000440 (fun t => t.memRead 0x4000#64 16) = some 0xFFEEDDCCBBAA99887766554433220800#128 := by
  decide

theorem test_stur_w0_x2_3 :
    after (inMemory [(2, 0x4000#64), (0, 0x102030405060708#64)]) 0xB8003040 (fun t => t.memRead 0x4000#64 16) = some 0xFFEEDDCCBBAA99887705060708221100#128 := by
  decide

theorem test_stp_w0_w1_x2 :
    after (inMemory [(2, 0x4000#64), (0, 0x102030405060708#64), (1, 0xAABBCCDD#64)]) 0x29000440 (fun t => t.memRead 0x4000#64 16) = some 0xFFEEDDCCBBAA9988AABBCCDD05060708#128 := by
  decide

theorem test_ldp_x3_x4_x2 :
    after (inMemory [(2, 0x4000#64), (0, 0x102030405060708#64)]) 0xA9401043 (fun t => (t.xReg 3, t.xReg 4)) = some (0x7766554433221100#64, 0xFFEEDDCCBBAA9988#64) := by
  decide

theorem test_ldp_w3_w4_x2_8 :
    after (inMemory [(2, 0x4000#64), (0, 0x102030405060708#64)]) 0x29C11043 (fun t => (t.xReg 2, t.xReg 3, t.xReg 4)) = some (0x4008#64, 0xBBAA9988#64, 0xFFEEDDCC#64) := by
  decide

theorem test_ldr_x1_sp :
    stop { inMemory [(2, 0x4000#64), (0, 0x102030405060708#64)] with sp := 0x4008#64 } 0xF94003E1 = some (.inl (.alignment 0x1000#64 0x4008#64)) := by
  decide

theorem test_ldr_x1_sp_8 :
    after { inMemory [(2, 0x4000#64), (0, 0x102030405060708#64)] with sp := 0x4000#64 } 0xF84087E1 (fun t => (t.xReg 1, t.sp)) = some (0x7766554433221100#64, 0x4008#64) := by
  decide

theorem test_ldxr_x1_x2 :
    stop (inMemory [(2, 0x400C#64), (0, 0x102030405060708#64)]) 0xC85F7C41 = some (.inl (.alignment 0x1000#64 0x400C#64)) := by
  decide

theorem test_ldxr_w1_x2 :
    after (inMemory [(2, 0x400C#64), (0, 0x102030405060708#64)]) 0x885F7C41 (fun t => t.xReg 1) = some 0xFFEEDDCC#64 := by
  decide

theorem test_cas_x0_x1_x2 :
    after (inMemory [(2, 0x4000#64), (0, 0x102030405060708#64), (1, 0x99#64)]) 0xC8A07C41 (fun t => t.xReg 0) = some 0x7766554433221100#64 := by
  decide

theorem test_cas_x0_x1_x2_case2 :
    after (inMemory [(2, 0x4000#64), (0, 0x7766554433221100#64), (1, 0x99#64)]) 0xC8A07C41 (fun t => t.memRead 0x4000#64 16) = some 0xFFEEDDCCBBAA99880000000000000099#128 := by
  decide

theorem test_swp_x0_x1_x2 :
    after (inMemory [(2, 0x4000#64), (0, 0x102030405060708#64)]) 0xF8208041 (fun t => (t.xReg 1, t.memRead 0x4000#64 16)) = some (0x7766554433221100#64, 0xFFEEDDCCBBAA99880102030405060708#128) := by
  decide

theorem test_ldadd_w0_w1_x2 :
    after (inMemory [(2, 0x4000#64), (0, 0xFFFFFFFF#64)]) 0xB8200041 (fun t => (t.xReg 1, t.memRead 0x4000#64 16)) = some (0x33221100#64, 0xFFEEDDCCBBAA998877665544332210FF#128) := by
  decide

theorem test_ldclr_w0_w1_x2 :
    after (inMemory [(2, 0x4000#64), (0, 0xFFFF#64)]) 0xB8201041 (fun t => (t.xReg 1, t.memRead 0x4000#64 16)) = some (0x33221100#64, 0xFFEEDDCCBBAA99887766554433220000#128) := by
  decide

theorem test_ldeor_w0_w1_x2 :
    after (inMemory [(2, 0x4000#64), (0, 0xFFFFFFFF#64)]) 0xB8202041 (fun t => (t.xReg 1, t.memRead 0x4000#64 16)) = some (0x33221100#64, 0xFFEEDDCCBBAA998877665544CCDDEEFF#128) := by
  decide

theorem test_ldset_w0_w1_x2 :
    after (inMemory [(2, 0x4000#64), (0, 0xFF#64)]) 0xB8203041 (fun t => (t.xReg 1, t.memRead 0x4000#64 16)) = some (0x33221100#64, 0xFFEEDDCCBBAA998877665544332211FF#128) := by
  decide

theorem test_ldsmax_w0_w1_x2 :
    after (inMemory [(2, 0x4000#64), (0, 0x80000000#64)]) 0xB8204041 (fun t => t.xReg 1) = some 0x33221100#64 := by
  decide

theorem test_ldsmin_w0_w1_x2 :
    after (inMemory [(2, 0x4000#64), (0, 0x80000000#64)]) 0xB8205041 (fun t => (t.xReg 1, t.memRead 0x4000#64 16)) = some (0x33221100#64, 0xFFEEDDCCBBAA99887766554480000000#128) := by
  decide

theorem test_ldumax_w0_w1_x2 :
    after (inMemory [(2, 0x4000#64), (0, 0x80000000#64)]) 0xB8206041 (fun t => (t.xReg 1, t.memRead 0x4000#64 16)) = some (0x33221100#64, 0xFFEEDDCCBBAA99887766554480000000#128) := by
  decide

theorem test_ldumin_w0_w1_x2 :
    after (inMemory [(2, 0x4000#64), (0, 0x80000000#64)]) 0xB8207041 (fun t => t.xReg 1) = some 0x33221100#64 := by
  decide

/-! ### System (2.13) -/

theorem test_mrs_x0_nzcv :
    after { machine [] with nzcv := Nzcv.ofBits 0b1010#4 } 0xD53B4200 (fun t => (t.xReg 0, t.pc, t.nzcv.toBits)) = some (0xA0000000#64, 0x1004#64, 0b1010#4) := by
  decide

theorem test_msr_nzcv_x1 :
    after (machine [(1, 0xFFFFFFFF5FFFFFFF#64)]) 0xD51B4201 (fun t => (t.xReg 0, t.pc, t.nzcv.toBits)) = some (0xBADBEEF#64, 0x1004#64, 0b0101#4) := by
  decide

theorem test_msr_nzcv_xzr :
    after { machine [] with nzcv := Nzcv.ofBits 0b1111#4 } 0xD51B421F (fun t => (t.xReg 0, t.pc, t.nzcv.toBits)) = some (0xBADBEEF#64, 0x1004#64, 0b0000#4) := by
  decide

theorem test_nop :
    after { machine [] with nzcv := Nzcv.ofBits 0b0101#4 } 0xD503201F (fun t => (t.xReg 0, t.pc, t.nzcv.toBits)) = some (0xBADBEEF#64, 0x1004#64, 0b0101#4) := by
  decide

theorem test_hint_127 :
    after (machine []) 0xD5032FFF (fun t => (t.xReg 0, t.pc, t.nzcv.toBits)) = some (0xBADBEEF#64, 0x1004#64, 0b0000#4) := by
  decide

theorem test_bti_c :
    after (machine []) 0xD503245F (fun t => (t.xReg 0, t.pc, t.nzcv.toBits)) = some (0xBADBEEF#64, 0x1004#64, 0b0000#4) := by
  decide

theorem test_dmb_ish :
    after (machine []) 0xD5033BBF (fun t => (t.xReg 0, t.pc, t.nzcv.toBits)) = some (0xBADBEEF#64, 0x1004#64, 0b0000#4) := by
  decide

theorem test_dsb_sy :
    after (machine []) 0xD5033F9F (fun t => (t.xReg 0, t.pc, t.nzcv.toBits)) = some (0xBADBEEF#64, 0x1004#64, 0b0000#4) := by
  decide

theorem test_isb :
    after (machine []) 0xD5033FDF (fun t => (t.xReg 0, t.pc, t.nzcv.toBits)) = some (0xBADBEEF#64, 0x1004#64, 0b0000#4) := by
  decide

theorem test_udf_0 :
    stop (machine []) 0x0 = some (.inl (.udf 0x1000#64 0x0#16)) := by
  decide

theorem test_hlt_0 :
    stop (machine []) 0xD4400000 = some (.inl (.hostTrapAbort 0x1000#64 0#16)) := by
  decide

/-! ### Divide, counts, reversals, CRC (2.5, 2.9, 2.10) -/

theorem test_udiv_by_zero : after (machine [(1, 5#64), (2, 0#64)]) 0x1AC20820 (·.xReg 0) = some 0#64 := by decide

theorem test_udiv_high : after (machine [(1, 0xFFFFFFF9#64), (2, 2#64)]) 0x1AC20820 (·.xReg 0) = some 0x7FFFFFFC#64 := by
  decide

theorem test_sdiv_toward_zero :
    after (machine [(1, 0xFFFFFFF9#64), (2, 2#64)]) 0x1AC20C20 (·.xReg 0) = some 0xFFFFFFFD#64 := by
  decide

theorem test_sdiv_int_min :
    after (machine [(1, 0x8000000000000000#64), (2, 0xFFFFFFFFFFFFFFFF#64)]) 0x9AC20C20 (·.xReg 0) =
      some 0x8000000000000000#64 := by
  decide

theorem test_umulh :
    after (machine [(1, 0x0123456789ABCDEF#64), (2, 0xFEDCBA9876543210#64)]) 0x9BC27C20 (·.xReg 0) =
      some 0x0121FA00AD77D742#64 := by
  decide

theorem test_smulh :
    after (machine [(1, 0x0123456789ABCDEF#64), (2, 0xFEDCBA9876543210#64)]) 0x9B427C20 (·.xReg 0) =
      some 0xFFFEB49923CC0953#64 := by
  decide

theorem test_clz_zero : after (machine [(1, 0#64)]) 0x5AC01020 (·.xReg 0) = some 32#64 := by decide

theorem test_cls : after (machine [(1, 0xF0000000#64)]) 0x5AC01420 (·.xReg 0) = some 3#64 := by decide

theorem test_rbit : after (machine [(1, 0x10000#64)]) 0x5AC00020 (·.xReg 0) = some 0x8000#64 := by decide

theorem test_rev16 :
    after (machine [(1, 0x0123456789ABCDEF#64)]) 0xDAC00420 (·.xReg 0) = some 0x23016745AB89EFCD#64 := by
  decide

theorem test_rev32 :
    after (machine [(1, 0x0123456789ABCDEF#64)]) 0xDAC00820 (·.xReg 0) = some 0x67452301EFCDAB89#64 := by
  decide

theorem test_rev_x :
    after (machine [(1, 0x0123456789ABCDEF#64)]) 0xDAC00C20 (·.xReg 0) = some 0xEFCDAB8967452301#64 := by
  decide

theorem test_rev_w : after (machine [(1, 0x12345678#64)]) 0x5AC00820 (·.xReg 0) = some 0x78563412#64 := by decide

theorem test_crc32b : after (machine [(1, 0xFFFFFFFF#64), (2, 0x31#64)]) 0x1AC24020 (·.xReg 0) = some 0x7C231048#64 := by
  decide

theorem test_crc32h :
    after (machine [(1, 0xFFFFFFFF#64), (2, 0x3231#64)]) 0x1AC24420 (·.xReg 0) = some 0xB0ACBB32#64 := by
  decide

theorem test_crc32w :
    after (machine [(1, 0x12345678#64), (2, 0x9ABCDEF0#64)]) 0x1AC24820 (·.xReg 0) = some 0xD7F2CDBD#64 := by
  decide

theorem test_crc32x :
    after (machine [(1, 0xFFFFFFFF#64), (2, 0x3837363534333231#64)]) 0x9AC24C20 (·.xReg 0) = some 0x651F2550#64 := by
  decide

theorem test_crc32cb : after (machine [(1, 0#64), (2, 0xFF#64)]) 0x1AC25020 (·.xReg 0) = some 0xAD7D5351#64 := by
  decide

theorem test_crc32ch :
    after (machine [(1, 0xFFFFFFFF#64), (2, 0x3231#64)]) 0x1AC25420 (·.xReg 0) = some 0x8CAA3B9F#64 := by
  decide

theorem test_crc32cw :
    after (machine [(1, 0xFFFFFFFF#64), (2, 0x34333231#64)]) 0x1AC25820 (·.xReg 0) = some 0x09C50B11#64 := by
  decide

theorem test_crc32cx :
    after (machine [(1, 0#64), (2, 0x8000000000000000#64)]) 0x9AC25C20 (·.xReg 0) = some 0x82F63B78#64 := by
  decide

/-! ### Bitfield and extract (2.4) -/

theorem test_sbfm_sbfiz : after (machine [(1, 8#64)]) 0x93780C20 (·.xReg 0) = some 0xFFFFFFFFFFFFF800#64 := by decide

theorem test_sbfm_sbfx : after (machine [(1, 0xF00#64)]) 0x13082C20 (·.xReg 0) = some 0xFFFFFFFF#64 := by decide

theorem test_ubfm_ubfx : after (machine [(1, 0x12345678#64)]) 0x53042C20 (·.xReg 0) = some 0x67#64 := by decide

theorem test_ubfm_ubfiz : after (machine [(1, 0xFFFFFFFF#64)]) 0x53101C20 (·.xReg 0) = some 0xFF0000#64 := by decide

theorem test_bfm_bfi :
    after (machine [(0, 0xFFFFFFFF#64), (1, 0xA#64)]) 0x33180C20 (·.xReg 0) = some 0xFFFFFAFF#64 := by
  decide

theorem test_bfm_bfxil :
    after (machine [(0, 0x11111111#64), (1, 0xABCD00#64)]) 0x33083C20 (·.xReg 0) = some 0x111111CD#64 := by
  decide

theorem test_extr_w :
    after (machine [(1, 0x11223344#64), (2, 0xAABBCCDD#64)]) 0x13822020 (·.xReg 0) = some 0x44AABBCC#64 := by
  decide

theorem test_extr_x :
    after (machine [(1, 1#64), (2, 0x8000000000000000#64)]) 0x93C2FC20 (·.xReg 0) = some 3#64 := by
  decide

/-! ### Monitors (2.12), the step order and the end of a run (2.11, 2.13) -/

/-- STXR W4, W3, [X2] under monitors that cover it. -/
theorem test_stxr_succeeds :
    after ((inMemory [(2, 0x4000#64), (3, 0x1234#64)]).markExclusive 0x4000#64 4) 0x88047C43
      (fun t => (t.xReg 4, t.memRead 0x4000#64 4, t.localMonitor)) = some (0#64, 0x1234#32, none) := by
  decide

/-- STXR X4, X3, [X2] after LDXR of four bytes. -/
theorem test_stxr_not_covered :
    after ((inMemory [(2, 0x4000#64), (3, 0x1234#64)]).markExclusive 0x4000#64 4) 0xC8047C43
      (fun t => (t.xReg 4, t.memRead 0x4000#64 4, t.localMonitor)) = some (1#64, 0x33221100#32, none) := by
  decide

theorem test_clrex :
    after ((machine []).markExclusive 0x4000#64 4) 0xD503305F (fun t => (t.localMonitor, t.globalMonitor)) =
      some (none, some { addr := 0x4000, size := 4 }) := by
  decide

theorem test_pc_zero_exits :
    (match step { quiet with pc := 0#64 } with | .next t => some (t.status, t.pc) | _ => none) = some (.exited, 0#64) := by
  decide

theorem test_pc_misaligned : stop { quiet with pc := 0x1002#64 } 0xD503201F = some (.inl (.pcAlignment 0x1002#64)) := by decide

theorem test_access_outside_memory :
    stop { machine [(2, 0x9000#64)] with platform.memory := [{ base := 0, size := 0x9000 }] } 0xF8400041 =
      some (.inl (.address 0x1000#64 0x9000#64)) := by
  decide

theorem test_unallocated : stop (machine []) 0xFFFFFFFF = some (.inl (.unallocated 0x1000#64 0xFFFFFFFF#32)) := by decide

/-! ### Scenarios 5 and 6 (1.1), the latch of MOVPRFX (1.2) -/

theorem test_ptrue_vl4 : afterNative quiet (.ptrue false (.vl 4) .w 0#4) (·.pReg 0#4) = some 0x1111#256 := by decide

theorem test_ptest :
    afterNative { quiet with p := Vector.replicate 16 0x1111#256 } (.ptest 0#4 0#4) (·.nzcv.toBits) = some 0b1000#4 := by
  decide

theorem test_whilelt_all :
    afterNative (machine [(0, 3#64), (1, 7#64)]) (.whileLanes .lt false .w 1#5 0#5 0#4)
      (fun t => (t.pReg 0#4, t.nzcv.toBits)) = some (0x1111#256, 0b1000#4) := by
  decide

theorem test_whilelt_two :
    afterNative (machine [(0, 5#64), (1, 7#64)]) (.whileLanes .lt false .w 1#5 0#5 0#4)
      (fun t => (t.pReg 0#4, t.nzcv.toBits)) = some (0x0011#256, 0b1010#4) := by
  decide

theorem test_movprfx_sets_latch : afterNative quiet (.movprfx .whole .w 1#5 0#5) (·.movprfx) = some true := by decide

theorem test_latch_cleared : after { quiet with movprfx := true } 0xD503201F (·.movprfx) = some false := by decide

/-! ### Native commands: hand calculation from the rules named -/

/-- 1.0 + 2^-53 rounds to even (R402). -/
theorem test_fadd_ties_to_even :
    fp2Result .add .double (fpEnvOf 0#32 0#16) 0x3FF0000000000000#64 0x3CA0000000000000#64 = 0x3FF0000000000000#64 := by
  decide

/-- FCVTZS of -1.5 (R407). -/
theorem test_fcvtzs :
    afterNative { quiet with z := quiet.z.setIfInBounds 1 0xBFF8000000000000#2048 }
      (.fpToInt .double true true .zero 0 1#5 0#5) (·.xReg 0) = some 0xFFFFFFFFFFFFFFFF#64 := by
  decide

/-- SQADD of bytes saturates, SHADD halves the exact sum (R413). -/
theorem test_lane_add :
    laneFinish 8 false false .signed (lanePrimary .add 8 true 0#8 0x7F#8 1#8) = 0x7F#8 ∧
    laneFinish 8 false true .none (lanePrimary .add 8 false 0#8 0xFF#8 0xFF#8) = 0xFF#8 := by
  decide

/-- CASP of a register pair (R367). -/
theorem test_casp_fails :
    afterNative (inMemory [(2, 0x4000#64), (4, 0#64), (5, 0#64)]) (.casp true false false 4#5 2#5 6#5)
      (fun t => (t.xReg 4, t.xReg 5)) = some (0x7766554433221100#64, 0xFFEEDDCCBBAA9988#64) := by
  decide

/-- INDEX Z0.S, #1, #2 (R429). -/
theorem test_index :
    afterNative quiet (.index .w (.immediate 1#5) (.immediate 2#5) 0#5) (·.zReg 0#5) =
      some 0x00000007000000050000000300000001#2048 := by
  decide

/-- Two vector registers whose bytes are their numbers: V1 0 to 15, V2 16 to 31. -/
def counted : State :=
  { quiet with
    z := (quiet.z.setIfInBounds 1 0x0F0E0D0C0B0A09080706050403020100#2048).setIfInBounds 2
      0x1F1E1D1C1B1A19181716151413121110#2048 }

/-- ZIP2 interleaves the upper halves, UZP1 takes the even lanes of both, TRN2 the odd lanes in pairs, EXT
starts at a byte of Vn, REV64 reverses the words of a doubleword (R414, by the names). -/
theorem test_permutes :
    permuteSource .zip2 4 0 = 2 ∧ permuteSource .zip2 4 1 = 6 ∧ permuteSource .uzp1 4 2 = 4 ∧
    permuteSource .trn2 4 0 = 1 ∧ permuteSource .trn2 4 1 = 5 ∧ permuteSource .zip1 4 3 = 5 := by
  decide

theorem test_zip1 : (counted.pairLane 32 4 2#5 1#5 (permuteSource .zip1 4 1)) = 0x13121110#32 := by decide

theorem test_ext : counted.pairLane 8 16 2#5 1#5 (15 + 1) = 0x10#8 := by decide

/-- SRSHL by -1 of 3 rounds up, SQRDMULH of -1.0 by -1.0 saturates, SRI keeps the top bits (R413, R414). -/
theorem test_lane_shifts :
    laneFinish 8 true false .none (lanePrimary .shlv 8 true 0#8 3#8 0xFF#8) = 2#8 ∧
    laneFinish 16 true false .signed (lanePrimary .mulh 16 true 0#16 0x8000#16 0x8000#16) = 0x7FFF#16 ∧
    laneFinish 8 false false .none (lanePrimary (.sri 4) 8 false 0xA0#8 0xBC#8 0#8) = 0xAB#8 := by
  decide

/-- Vn:Vm has Vm in its low lanes (R8, R419). -/
theorem test_concat_lane : counted.concatLane .double 2 2#5 1#5 0 = 0x1716151413121110#64 := by decide

/-- SQDECP W0 under three active words: -2^31 stays, and the write is zero-extended (R23, R432). -/
theorem test_signed_count :
    afterNative { machine [(0, 0x180000001#64)] with p := Vector.replicate 16 0x0111#256 }
      (.incDec true (.signed false) .w 0#4 0#5) (·.xReg 0) = some 0x80000000#64 := by
  decide

/-- INCP Z1.D under one active doubleword (R432). -/
theorem test_vector_count :
    afterNative { counted with p := Vector.replicate 16 0x0100#256 } (.incDecVector false .plain .x 0#4 1#5) (·.zReg 1#5) =
      some 0x0F0E0D0C0B0A09090706050403020101#2048 := by
  decide

/-- kEnableCPUFeatures reads the list behind the HLT and goes on behind its word (R392). -/
theorem test_enable_features :
    after { machine [] with
        mem := [(0x1004, 5#8)], features := [.sve], platform.hostServices := [(7#16, .enableFeatures)] } 0xD44000E0
      (fun t => (t.features, t.pc)) = some ([.sve, .lse], 0x1008#64) := by
  decide

/-- A host that saves a feature set, changes it and restores it has it back (R392, R52). -/
theorem test_save_and_restore :
    let s := { machine [] with
      features := [.sve], platform.hostServices := [(9#16, .saveFeatures 0), (10#16, .restoreFeatures 1)] }
    (match Simulator.exec (.hlt 9#16) { machine := s, snapshots := [] } with
      | .next m =>
        (match Simulator.exec (.hlt 10#16) { m with machine.features := [.lse] } with
          | .next n => some (n.machine.features, n.snapshots, n.machine.pc)
          | _ => none)
      | _ => none) = some ([.sve], [], 0x100C#64) := by
  decide

/-! ## Witnesses: the hypotheses of each statement can be met, clause by clause -/

/-- Whether a result is a next state. -/
def isNext : Result → Bool
  | .next _ => true
  | .fault _ => false
  | .refused _ => false

/-- The next state. -/
def stateOf : Result → State
  | .next t => t
  | .fault _ => quiet
  | .refused _ => quiet

theorem next_of_isNext {r : Result} (h : isNext r = true) : r = .next (stateOf r) := by
  cases r with
  | next t => rfl
  | fault f => simp [isNext] at h
  | refused f => simp [isNext] at h

theorem quiet_inv : quiet.Inv where
  memory := by decide
  vectors := by decide
  predicates := by decide
  btypeNext := rfl
  platform := by decide

/-- `quiet` at the word `w`, in a guarded page and under a BType. -/
def guarded (b : BType) (w : Nat) : State :=
  { quiet with platform.guarded := [{ base := 0x1000, size := 4 }], btype := b }.withFetchWord 32 w

/-- `quiet` without any memory. -/
def noMemory : State := { quiet with platform.memory := [] }

/-- `quiet` with a misaligned SP. -/
def skewed : State := { quiet with sp := 0x7FF8#64 }

/-- X2 at the last word of a 16-byte line. -/
def atLine : State := machine [(2, 0x400C#64)]

/-- A machine with each host service, and behind PC the list LSE, SVE, None. -/
def hosted : State :=
  { quiet with
    mem := [(0x1004, 5#8), (0x1005, 2#8)]
    platform.hostServices :=
      [(1#16, .unreachable), (2#16, .trace 1), (3#16, .log 1), (4#16, .printf 2), (5#16, .runtimeCall 2),
       (6#16, .setFeatures), (7#16, .enableFeatures), (8#16, .disableFeatures), (9#16, .saveFeatures 0),
       (10#16, .restoreFeatures 0), (11#16, .unnamed)] }

/-- `hosted` with no memory behind the HLT. -/
def cutOff : State := { hosted with platform.memory := [{ base := 0x1000, size := 4 }] }

theorem hosted_holdsList : hosted.HoldsList [5, 2] where
  limit := by decide
  entries := by decide
  sentinel := by decide
  valid := by decide

theorem cutOff_holdsNoList (codes : List Nat) : ¬cutOff.HoldsList codes := fun h =>
  absurd (h.valid 0 (Nat.zero_le _)) (by decide)

theorem witness_ResetGeneralRegisters :
    Platform.default.wf = true ∧ { Platform.default with vl := 2048, stackTop := 0#64, stackSize := 512, stackPad := 512 }.wf = false ∧
    { Platform.default with vl := 2048 }.wf = true ∧ (0 < 30 ∧ 29 < 30) := by
  decide

theorem witness_ResetOtherState :
    { Platform.default with nzcvReset := 5#4, entry := 0x2000#64 }.wf = true ∧ hosted.platform.wf = true := by
  decide

theorem witness_ResetInvariant :
    { Platform.default with vl := 256 }.wf = true ∧ quiet.Inv ∧ Platform.wf { quiet.platform with vl := 2048 } = true :=
  ⟨by decide, quiet_inv, by decide⟩

theorem witness_StepKeepsInvariant : quiet.Inv ∧ step (quiet.withFetchWord 32 0xD503201F) =
      .next (stateOf (step (quiet.withFetchWord 32 0xD503201F))) ∧ (quiet.withFetchWord 32 0xD503201F).Inv :=
  ⟨quiet_inv, next_of_isNext (by decide),
    ⟨by decide, quiet_inv.vectors, quiet_inv.predicates, rfl, by decide⟩⟩

theorem witness_NativeStepKeepsInvariant :
    quiet.Inv ∧ stepNative (.ptrue false .all .w 0#4) quiet =
      .next (stateOf (stepNative (.ptrue false .all .w 0#4) quiet)) :=
  ⟨quiet_inv, next_of_isNext (by decide)⟩

/-- The premises, a word, and the three ways past the BTI check; then a command. -/
theorem witness_StepRunsDecoded :
    (quiet.status = .running ∧ quiet.pc ≠ 0#64 ∧ quiet.pc.toNat % 4 = 0 ∧ quiet.memValid quiet.pc 4 = true) ∧
    (decode (quiet.withFetchWord 32 0xD503201F).fetchWord = .instr .nop ∧ quiet.guardedPage quiet.pc = false) ∧
    (decode (guarded .default 0xD503201F).fetchWord = .instr .nop ∧
      (guarded .default 0xD503201F).guardedPage 0x1000#64 = true ∧ (guarded .default 0xD503201F).btype = .default) ∧
    (decode (guarded .branchAndLink 0xD503245F).fetchWord = .instr .btiC ∧ btiPermits .btiC .branchAndLink = true) ∧
    (NativeCmd.pfalse 0#4).wellFormed = true := by
  decide

/-- Not running; PC zero; PC misaligned; fetch outside memory; then the rejected words. -/
theorem witness_StepChecksInOrder :
    { quiet with status := .exited }.status ≠ .running ∧ { quiet with pc := 0#64 }.status = .running ∧
    ({ quiet with pc := 2#64 }.pc ≠ 0#64 ∧ { quiet with pc := 2#64 }.pc.toNat % 4 ≠ 0) ∧
    (noMemory.status = .running ∧ noMemory.pc.toNat % 4 = 0 ∧ noMemory.memValid noMemory.pc 4 = false) ∧
    decode (quiet.withFetchWord 32 0xFFFFFFFF).fetchWord = .rejected .unallocated ∧
    (decode (guarded .branchAndLink 0xD4200000).fetchWord = .rejected .unimplemented ∧
      (guarded .branchAndLink 0xD4200000).guardedPage 0x1000#64 = true ∧ (Reject.unimplemented ≠ .unallocated)) ∧
    (decode (quiet.withFetchWord 32 0xD4200000).fetchWord = .rejected .unimplemented ∧
      quiet.guardedPage quiet.pc = false) ∧
    decode (quiet.withFetchWord 32 0xD65F0BFF).fetchWord = .rejected (.pointerAuthentication "pointer-authenticating branch") := by
  decide

/-- A violation, and the ways to have none. -/
theorem witness_BtiViolation :
    (decode (guarded .branchAndLink 0xD503249F).fetchWord = .instr .btiJ ∧
      (guarded .branchAndLink 0xD503249F).btype = .branchAndLink ∧
      (guarded .branchAndLink 0xD503249F).guardedPage 0x1000#64 = true ∧
      (guarded .branchAndLink 0xD503249F).memValid 0x1000#64 4 = true) ∧
    decode (guarded .branchFromGuardedNotToIP 0xD503249F).fetchWord = .instr .btiJ ∧
    decode (guarded .branchAndLink 0xD503245F).fetchWord = .instr .btiC ∧
    decode (guarded .branchFromUnguardedOrToIP 0xD50324DF).fetchWord = .instr .btiJc ∧
    decode (guarded .branchAndLink 0xD4400000).fetchWord = .instr (.hlt 0#16) := by
  decide

/-- A fault and a refusal of a word, and of a native command. -/
theorem witness_FaultsRecordPc :
    (step (quiet.withFetchWord 32 0) = .fault (.udf 0x1000#64 0#16) ∧ quiet.status = .running) ∧
    step (quiet.withFetchWord 32 0xD503233F) =
      .refused (.pointerAuthentication 0x1000#64 "PACIASP" (.instr (.hint 25#7))) ∧
    stepNative (.unmodelled .brk 7) quiet = .fault (.unimplemented 0x1000#64 (.native (.unmodelled .brk 7))) ∧
    stepNative (.ldpsw (.post 1#7) 1#5 2#5 1#5) quiet =
      .refused (.loadPairSameRegister 0x1000#64 (.native (.ldpsw (.post 1#7) 1#5 2#5 1#5))) :=
  ⟨⟨rfl, rfl⟩, rfl, rfl, rfl⟩

theorem witness_StoppedIsTerminal :
    isNext (step (quiet.withFetchWord 32 0xD503201F)) = true ∧ { quiet with status := .exited }.status ≠ .running := by
  decide

/-- BR through an ordinary register and through X16, BLR, and an instruction that is no branch. -/
theorem witness_NextBType :
    ∀ e ∈ ([(0xD61F0020, .br 1#5), (0xD61F0200, .br 16#5), (0xD63F0020, .blr 1#5), (0xD503201F, .nop)] : List (Nat × Instr)),
      (guarded .default e.1).btypeNext = .default ∧ (guarded .default e.1).pc ≠ 0#64 ∧
      decode (guarded .default e.1).fetchWord = .instr e.2 ∧ isNext (step (guarded .default e.1)) = true := by
  decide

theorem witness_DecodeEncode :
    (Instr.andsImmediate true true 63#6 62#6 31#5 31#5).wellFormed = true ∧
    (Instr.subsExtendedRegister false 31#5 .sxtx 4#3 31#5 31#5).wellFormed = true := by
  decide

theorem witness_EncodeDecode :
    decode 0xFA5FB3E0#32 = .instr (.ccmpRegister true 31#5 11#4 31#5 0#4) ∧ decode 0#32 = .instr (.udf 0#16) := by
  decide

theorem witness_AddWithCarryLaws : 0 < 1 ∧ 0 < 64 := by decide

/-- The last amount of a shift, the first that is none, the inverse of ROR. -/
theorem witness_ShiftLaws : 0 < 32 ∧ 31 < 32 ∧ 32 ≤ 32 ∧ 0 < 31 := by decide

theorem witness_ExtendLaws :
    4 < 5 ∧ 4 ≤ 4 ∧ (ExtendType.uxtx, 64) ∈ [(ExtendType.uxtb, 8), (.uxth, 16), (.uxtw, 32), (.uxtx, 64)] := by
  decide

theorem witness_BitfieldShifts : 0 < 1 ∧ 63 < 64 ∧ 0 < 63 := by decide

theorem witness_CountsAndReversals :
    (1#32 ≠ 0#32 ∧ 32 - 1 - clz 32 1#32 < 1) ∧ (1 < 32 ∧ 32 - 1 - cls 32 0xF0000000#32 ≤ 28 ∧ cls 32 0xF0000000#32 < 32 - 1) ∧
    (16 ∈ [16, 32, 64] ∧ 16 * 3 + 16 ≤ 64 ∧ 1 < 16 / 8 ∧ 7 < 8) := by
  decide

theorem witness_AddSubShifted :
    (ShiftType.asr ≠ .ror ∧ (31#6).toNat < width false) ∧ (ShiftType.lsl ≠ .ror ∧ (63#6).toNat < width true) := by
  decide

theorem witness_AddSubExtended : (4#3).toNat ≤ 4 := by decide

theorem witness_LogicalShifted : (31#6).toNat < width false ∧ (63#6).toNat < width true := by decide

/-- Both ends of the element sizes (2.7). -/
theorem witness_LogicalImmediate :
    decodeBitMasks (width false) false 0b111100#6 1#6 = some 0xAAAAAAAA#32 ∧
    decodeBitMasks (width true) true 0b111110#6 63#6 = some 0xFFFFFFFFFFFFFFFE#64 ∧
    decodeBitMasks (width false) true 0#6 0#6 = none ∧ decodeBitMasks (width true) true 0b111111#6 0#6 = none := by
  decide

theorem witness_MoveWide : 16 * (1#2).toNat < width false ∧ 16 * (3#2).toNat < width true := by decide

theorem witness_BitfieldAndExtract : (31#6).toNat < width false ∧ (63#6).toNat < width true := by decide

theorem witness_RegisterAccess : (30#5 : RegNum) ≠ 31#5 := by decide

/-- A branch taken and one not taken, of each conditional kind. -/
theorem witness_DirectBranches :
    (conditionHolds 0#4 quiet.nzcv = false ∧ conditionHolds 1#4 quiet.nzcv = true) ∧
    ((machine [(0, 0x100000000#64)]).rz (width false) 0#5 = 0#32 ∧ (machine [(0, 0x100000000#64)]).rz (width true) 0#5 ≠ 0#64) ∧
    (((machine [(0, 0x7FFFFFFFFFFFFFFF#64)]).rz 64 0#5).getLsbD (31 + 32) = false ∧
      ((machine [(0, 0x80000000#64)]).rz 64 0#5).getLsbD (31 + 0) = true) := by
  decide

theorem witness_Division :
    ((0#32 : BitVec 32).toNat = 0 ∧ (5#32 : BitVec 32).toNat ≠ 0) ∧
    ((0xFFFFFFFF#32 : BitVec 32).toInt = -1 ∧ (0x80000000#32 : BitVec 32).toInt = -2 ^ (32 - 1)) ∧
    ((0xFFFFFFFE#32 : BitVec 32).toInt ≠ 0 ∧ (0xFFFFFFFE#32 : BitVec 32).toInt ≠ -1) := by
  decide

theorem witness_NoEffect :
    (127#7).toNat ∉ [7, 8, 10, 12, 14, 24, 25, 26, 27, 28, 29, 30, 31] ∧
    isMemoryWritingSys 3#3 7#4 4#4 2#3 = false := by
  decide

theorem witness_StoppingForms : isMemoryWritingSys 3#3 7#4 4#4 1#3 = true := by decide

theorem witness_HostTraps :
    (∀ e ∈ ([(0#16, none), (1#16, some .unreachable), (2#16, some (.trace 1)), (3#16, some (.log 1)), (4#16, some (.printf 2)),
        (5#16, some (.runtimeCall 2)), (6#16, some .setFeatures), (7#16, some .enableFeatures),
        (8#16, some .disableFeatures), (9#16, some (.saveFeatures 0)), (10#16, some (.restoreFeatures 0)),
        (11#16, some .unnamed)] : List (BitVec 16 × Option HostService)),
      (hosted.platform.hostServices.find? fun s => s.1 == e.1).map Prod.snd = e.2) ∧
    (hosted.HoldsList [5, 2] ∧ 4 ≤ hosted.platform.featureList.offset) ∧ (∀ codes, ¬cutOff.HoldsList codes) ∧
    hosted.platform.wf = true :=
  ⟨by decide, ⟨hosted_holdsList, by decide⟩, cutOff_holdsNoList, by decide⟩

/-- Every addressing mode, its offset at an end of its range; SP as the base; register 31 loaded. -/
theorem witness_SingleLoads :
    ∀ e ∈ ([(.ldrX, .pre 0x100#9, 31#5, 31#5), (.ldrsbW, .post 0xFF#9, 2#5, 1#5), (.ldrsw, .unscaled 0x100#9, 2#5, 2#5),
        (.ldrh, .unsigned 0xFFF#12, 2#5, 31#5), (.ldrW, .register 2#5 .sxtw true, 2#5, 2#5)] :
        List (LdStKind × AddrMode × RegNum × RegNum)),
      kindStores e.1 = false ∧ e.2.1.wellFormed = true ∧ atLine.baseOk e.2.2.1 ∧
      noOverlap (atLine.modeAddress e.2.2.1 (kindBytes e.1) e.2.1).2 e.2.2.1 e.2.2.2 ∧
      atLine.memValid (atLine.modeAddress e.2.2.1 (kindBytes e.1) e.2.1).1 (kindBytes e.1) = true := by
  unfold State.baseOk noOverlap
  decide

theorem witness_SingleStores :
    Memory.wf atLine.mem = true ∧
    ∀ e ∈ ([(.strX, .pre 0x100#9, 31#5, 31#5), (.strb, .post 0xFF#9, 2#5, 1#5), (.strW, .unscaled 0x100#9, 2#5, 2#5),
        (.strh, .unsigned 0xFFF#12, 2#5, 31#5), (.strX, .register 2#5 .uxtx true, 2#5, 2#5)] :
        List (LdStKind × AddrMode × RegNum × RegNum)),
      kindStores e.1 = true ∧ e.2.1.wellFormed = true ∧ atLine.baseOk e.2.2.1 ∧
      noOverlap (atLine.modeAddress e.2.2.1 (kindBytes e.1) e.2.1).2 e.2.2.1 e.2.2.2 ∧
      atLine.memValid (atLine.modeAddress e.2.2.1 (kindBytes e.1) e.2.1).1 (kindBytes e.1) = true := by
  unfold State.baseOk noOverlap
  decide

/-- The modes of a pair, X and W, SP as the base. -/
theorem witness_PairLoads :
    ∀ e ∈ ([(8, .pre 0x40#7, 3#5, 31#5, 31#5), (4, .post 0x3F#7, 3#5, 2#5, 1#5), (8, .offset 0x40#7, 31#5, 2#5, 2#5)] :
        List (Nat × PairMode × RegNum × RegNum × RegNum)),
      e.2.2.2.2 ≠ e.2.2.1 ∧ atLine.baseOk e.2.2.2.1 ∧
      noOverlap (atLine.pairModeAddress e.2.2.2.1 e.1 e.2.1).2 e.2.2.2.1 e.2.2.2.2 ∧
      noOverlap (atLine.pairModeAddress e.2.2.2.1 e.1 e.2.1).2 e.2.2.2.1 e.2.2.1 ∧
      atLine.memValid (atLine.pairModeAddress e.2.2.2.1 e.1 e.2.1).1 e.1 = true ∧
      atLine.memValid ((atLine.pairModeAddress e.2.2.2.1 e.1 e.2.1).1 + BitVec.ofNat 64 e.1) e.1 = true := by
  unfold State.baseOk noOverlap
  decide

theorem witness_PairStores :
    Memory.wf atLine.mem = true ∧
    ∀ e ∈ ([(8, .pre 0x40#7, 31#5, 31#5, 31#5), (4, .post 0x3F#7, 1#5, 2#5, 1#5), (8, .offset 0x40#7, 31#5, 2#5, 2#5)] :
        List (Nat × PairMode × RegNum × RegNum × RegNum)),
      atLine.baseOk e.2.2.2.1 ∧
      noOverlap (atLine.pairModeAddress e.2.2.2.1 e.1 e.2.1).2 e.2.2.2.1 e.2.2.2.2 ∧
      noOverlap (atLine.pairModeAddress e.2.2.2.1 e.1 e.2.1).2 e.2.2.2.1 e.2.2.1 ∧
      atLine.memValid (atLine.pairModeAddress e.2.2.2.1 e.1 e.2.1).1 e.1 = true ∧
      atLine.memValid ((atLine.pairModeAddress e.2.2.2.1 e.1 e.2.1).1 + BitVec.ofNat 64 e.1) e.1 = true := by
  unfold State.baseOk noOverlap
  decide

/-- The ends of the offset, with and without memory. -/
theorem witness_LiteralLoads :
    (quiet.memValid (BitVec.ofInt 64 (quiet.pc.toNat + (0x40000#19).toInt * 4)) 4 = true ∧
      quiet.memValid (BitVec.ofInt 64 (quiet.pc.toNat + (0x3FFFF#19).toInt * 4)) 8 = true) ∧
    (noMemory.memValid (BitVec.ofInt 64 (quiet.pc.toNat + (0#19).toInt * 4)) 4 = false ∧
      noMemory.memValid (BitVec.ofInt 64 (quiet.pc.toNat + (0#19).toInt * 4)) 8 = false) := by
  decide

/-- The last word of a line; SP as the base. -/
theorem witness_LoadExclusives :
    (atLine.baseOk 2#5 ∧ inLine (atLine.rsp 64 2#5) (accessBytes .w) ∧ atLine.memValid (atLine.rsp 64 2#5) 4 = true) ∧
    (atLine.baseOk 31#5 ∧ inLine (atLine.rsp 64 31#5) (accessBytes .x) ∧ atLine.memValid (atLine.rsp 64 31#5) 8 = true) := by
  unfold State.baseOk inLine
  decide

/-- Monitors that cover the access exactly, and monitors that do not. -/
theorem witness_StoreExclusives :
    (Memory.wf atLine.mem = true ∧ (4#5 : RegNum) ≠ 3#5 ∧ (4#5 : RegNum) ≠ 2#5 ∧ atLine.baseOk 2#5 ∧
      inLine (atLine.rsp 64 2#5) (accessBytes .w) ∧ atLine.memValid (atLine.rsp 64 2#5) (accessBytes .w) = true) ∧
    ((atLine.markExclusive 0x400C#64 4).localMonitor = some { addr := 0x400C, size := 4 } ∧
      (atLine.markExclusive 0x400C#64 4).globalMonitor = some { addr := 0x400C, size := 4 } ∧
      0x400C ≤ (atLine.rsp 64 2#5).toNat ∧ (atLine.rsp 64 2#5).toNat + accessBytes .w ≤ 0x400C + 4) ∧
    atLine.localMonitor = none := by
  unfold State.baseOk inLine
  decide

/-- LDAXR, then STLXR and STXR; then STLXR after CLREX, a store, a pair store with write-back, and STLR. -/
theorem witness_ExclusiveSequence :
    let t := stateOf (exec (.ldaxr .w 2#5 1#5) atLine)
    let after (i : Instr) : State := stateOf (exec i t)
    (exec (.ldaxr .w 2#5 1#5) atLine = .next t ∧
      exec (.stlxr .w 4#5 2#5 3#5) t = .next (after (.stlxr .w 4#5 2#5 3#5)) ∧
      isNext (exec (.stxr .w 4#5 2#5 3#5) (after (.stlxr .w 4#5 2#5 3#5))) = true) ∧
    (kindStores .strb = true ∧
      ([Instr.clrex 0#4, singleOf .strb 2#5 3#5 (.post 0x100#9), pairOf true false 3#5 31#5 3#5 (.pre 0x40#7),
        .stlr .w 2#5 3#5].all fun i =>
        isNext (exec i t) && isNext (exec (.stlxr .w 4#5 2#5 3#5) (after i))) = true) :=
  ⟨⟨next_of_isNext (by decide), next_of_isNext (by decide), by decide⟩, rfl, by decide⟩

theorem witness_AcquireRelease :
    Memory.wf atLine.mem = true ∧ atLine.baseOk 2#5 ∧ inLine (atLine.rsp 64 2#5) (accessBytes .w) ∧
    atLine.memValid (atLine.rsp 64 2#5) (accessBytes .w) = true := by
  unfold State.baseOk inLine
  decide

/-- Memory equal to Rs, and not equal. -/
theorem witness_CompareAndSwap :
    Memory.wf atLine.mem = true ∧ atLine.baseOk 2#5 ∧ inLine (atLine.rsp 64 2#5) (accessBytes .w) ∧
    atLine.memValid (atLine.rsp 64 2#5) (accessBytes .w) = true ∧
    atLine.memRead (atLine.rsp 64 2#5) (accessBytes .w) = (atLine.rz 64 31#5).setWidth (8 * accessBytes .w) ∧
    atLine.memRead (atLine.rsp 64 2#5) (accessBytes .w) ≠ (atLine.rz 64 2#5).setWidth (8 * accessBytes .w) := by
  unfold State.baseOk inLine
  decide

theorem witness_AtomicUpdates :
    Memory.wf atLine.mem = true ∧ atLine.baseOk 2#5 ∧ inLine (atLine.rsp 64 2#5) (accessBytes .w) ∧
    atLine.memValid (atLine.rsp 64 2#5) (accessBytes .w) = true := by
  unfold State.baseOk inLine
  decide

/-- Single accesses and pairs: an overlap, a misaligned SP, no memory; then the exclusives. -/
theorem witness_LoadStoreStops :
    (¬noOverlap (quiet.modeAddress 1#5 8 (.pre 8#9)).2 1#5 1#5 ∧ (AddrMode.pre 8#9).wellFormed = true) ∧
    (noOverlap (skewed.modeAddress 31#5 8 (.unsigned 0#12)).2 31#5 1#5 ∧ ¬skewed.baseOk 31#5) ∧
    (noOverlap (noMemory.modeAddress 31#5 8 (.unsigned 0#12)).2 31#5 1#5 ∧ noMemory.baseOk 31#5 ∧
      noMemory.memValid (noMemory.modeAddress 31#5 8 (.unsigned 0#12)).1 8 = false) ∧
    (¬(noOverlap (quiet.pairModeAddress 1#5 8 (.post 1#7)).2 1#5 1#5 ∧ noOverlap (quiet.pairModeAddress 1#5 8 (.post 1#7)).2 1#5 3#5) ∧
      (1#5 : RegNum) ≠ 3#5) ∧
    (noOverlap (skewed.pairModeAddress 31#5 8 (.post 1#7)).2 31#5 1#5 ∧ noOverlap (skewed.pairModeAddress 31#5 8 (.post 1#7)).2 31#5 3#5) ∧
    ({ quiet with platform.memory := [{ base := 0x8000, size := 8 }] }.memValid 0x8000#64 8 = true ∧
      { quiet with platform.memory := [{ base := 0x8000, size := 8 }] }.memValid (0x8000#64 + BitVec.ofNat 64 8) 8 = false) ∧
    (lineAccess (.stxr .w 4#5 31#5 3#5) = some (.w, 31#5) ∧ (4#5 : RegNum) ≠ 3#5 ∧ (4#5 : RegNum) ≠ 31#5) ∧
    (atLine.baseOk 2#5 ∧ ¬inLine (atLine.rsp 64 2#5) (accessBytes .x)) ∧
    (inLine (noMemory.rsp 64 31#5) (accessBytes .x) ∧ noMemory.memValid (noMemory.rsp 64 31#5) (accessBytes .x) = false) := by
  unfold State.baseOk inLine noOverlap
  decide

/-- The last eight bytes of the address space. -/
theorem witness_MemoryReadAfterWrite :
    Memory.wf quiet.mem = true ∧ quiet.memValid 0xFFFFFFFFFFFFFFF8#64 8 = true ∧ 7 < 8 := by
  decide

theorem witness_WritesOnlyWhatIsListed :
    exec .nop quiet = .next quiet ∧ mayWriteFlags .nop = false ∧ mayWriteMemory .nop = false ∧
    (∀ rt, Instr.nop ≠ .msrFpcr rt) ∧ (∀ imm16, Instr.nop ≠ .hlt imm16) ∧ (∀ rt, Instr.nop ≠ .mrsRndr rt) ∧
    (∀ rt, Instr.nop ≠ .mrsRndrrs rt) :=
  ⟨rfl, rfl, rfl, nofun, nofun, nofun, nofun⟩

/-- Some lanes true, some false; the last lane in range. -/
theorem witness_WhileLanes :
    quiet.platform.wf = true ∧
    (3 < quiet.platform.vl / (8 * accessBytes .w) ∧ ((machine [(0, 5#64)]).rz (width false) 0#5).toInt + 3 ≤ 2 ^ (32 - 1) - 1) ∧
    ((stateOf (execNative (.whileLanes .lt false .w 1#5 0#5 0#4) (machine [(0, 5#64), (1, 7#64)]))).pReg 0#4).getLsbD (4 * 1) = true ∧
    ((stateOf (execNative (.whileLanes .lt false .w 1#5 0#5 0#4) (machine [(0, 5#64), (1, 7#64)]))).pReg 0#4).getLsbD (4 * 2) = false := by
  decide

/-- An active predicate element that holds, and one that does not. -/
theorem witness_PredicateFlags :
    ({ quiet with p := quiet.p.setIfInBounds 0 0x1001#256 }.pReg 0#4).getLsbD 12 = true ∧ 12 < quiet.platform.vl / 8 ∧
    (quiet.rz (width false) 31#5 = quiet.rz (width false) 31#5 ∧ quiet.rz (width false) 0#5 ≠ quiet.rz (width false) 31#5) := by
  decide

/-- FPCR as it must be; the least NaN; the zeros; an order each way; an FPCR that is not supported. -/
theorem witness_DoubleCompare :
    (quiet.fpcr &&& ~~~0x07C00000#32 = 0#32 ∧ quiet.fpcr.getLsbD 24 = false) ∧
    0x7FF0000000000000 < (0x7FF0000000000001#64 &&& 0x7FFFFFFFFFFFFFFF#64).toNat ∧
    ¬0x7FF0000000000000 < (0x7FF0000000000000#64 &&& 0x7FFFFFFFFFFFFFFF#64).toNat ∧
    (-(((0x8000000000000000#64 &&& 0x7FFFFFFFFFFFFFFF#64).toNat : Nat) : Int) = (0#64 &&& 0x7FFFFFFFFFFFFFFF#64).toNat) ∧
    { quiet with fpcr := 1#32 }.fpcr &&& ~~~0x07C00000#32 ≠ 0#32 := by
  decide

end Sys2Proof.Tests
end

section
/-! PROOFS. What an instruction can do, said once for all 202: the updates its next state is made of, and what
a stop of it records. -/

namespace Sys2Proof.Machine

variable {s t u : State} {i : Instr} {k : Result}

/-! ## Draws from the generator -/

@[simp] theorem State.rndrDraw_mem (s : State) (rt : RegNum) : (s.rndrDraw rt).mem = s.mem := s.wrRz_mem rt _
@[simp] theorem State.rndrDraw_fpcr (s : State) (rt : RegNum) : (s.rndrDraw rt).fpcr = s.fpcr := s.wrRz_fpcr rt _
@[simp] theorem State.rndrDraw_z (s : State) (rt : RegNum) : (s.rndrDraw rt).z = s.z := s.wrRz_z rt _
@[simp] theorem State.rndrDraw_p (s : State) (rt : RegNum) : (s.rndrDraw rt).p = s.p := s.wrRz_p rt _
@[simp] theorem State.rndrDraw_features (s : State) (rt : RegNum) : (s.rndrDraw rt).features = s.features :=
  s.wrRz_features rt _
@[simp] theorem State.rndrDraw_freeCount (s : State) (rt : RegNum) : (s.rndrDraw rt).freeCount = s.freeCount :=
  s.wrRz_freeCount rt _

/-! ## The updates an instruction is made of -/

/-- The states an instruction can make of `s`, one constructor per update. Registers, PC, the monitors and the
next BType are open to every instruction; flags, memory, FPCR and the generator to those that R32, R79, R382
and R383 name; of what a host service leaves only what it keeps is known (R392). -/
inductive State.Effect (i : Instr) (s : State) : State → Prop
  | refl : s.Effect i s
  | wrRz {t : State} {n : Nat} {rd : RegNum} {v : BitVec n} (h : s.Effect i t) : s.Effect i (t.wrRz rd v)
  | wrRsp {t : State} {n : Nat} {rd : RegNum} {v : BitVec n} (h : s.Effect i t) : s.Effect i (t.wrRsp rd v)
  | branchTo {t : State} {target : Word} (h : s.Effect i t) : s.Effect i (t.branchTo target)
  | setBTypeNext {t : State} {b : BType} (h : s.Effect i t) : s.Effect i (t.setBTypeNext b)
  | clearLocal {t : State} (h : s.Effect i t) : s.Effect i t.clearLocal
  | markExclusive {t : State} {addr : Word} {size : Nat} (h : s.Effect i t) :
      s.Effect i (t.markExclusive addr size)
  | setFlags {t : State} {f : Nzcv} (may : mayWriteFlags i = true) (h : s.Effect i t) : s.Effect i (t.setFlags f)
  | memWrite {t : State} {addr : Word} {n w : Nat} {v : BitVec w} (may : mayWriteMemory i = true)
      (h : s.Effect i t) : s.Effect i (t.memWrite addr n v)
  | wrFpcr {t : State} {v : BitVec 32} (may : ∃ rt, i = .msrFpcr rt) (h : s.Effect i t) :
      s.Effect i { t with fpcr := v }
  | rndrDraw {t : State} {rt : RegNum} (may : i = .mrsRndr rt ∨ i = .mrsRndrrs rt) (h : s.Effect i t) :
      s.Effect i (t.rndrDraw rt)
  | host {t : State} (may : ∃ imm16, i = .hlt imm16) (h : s.Kept t) : s.Effect i t

namespace State.Effect

theorem kept (h : s.Effect i t) : s.Kept t := by
  induction h with
  | refl => exact .refl s
  | wrRz _ ih => exact ih.wrRz
  | wrRsp _ ih => exact ih.wrRsp
  | branchTo _ ih => exact ih.branchTo
  | setBTypeNext _ ih => exact ih.setBTypeNext
  | clearLocal _ ih => exact ih.clearLocal
  | markExclusive _ ih => exact ih.markExclusive
  | setFlags _ _ ih => exact ih.setFlags
  | memWrite _ _ ih => exact ih.memWrite
  | wrFpcr _ _ ih => exact ih.trans (.of rfl rfl rfl rfl rfl rfl rfl)
  | rndrDraw _ _ ih => exact ih.rndrDraw
  | host _ h => exact h

theorem nzcv (hi : mayWriteFlags i = false) (h : s.Effect i t) : t.nzcv = s.nzcv := by
  induction h with
  | refl => rfl
  | wrRz _ ih | wrRsp _ ih => simpa using ih
  | branchTo _ ih | setBTypeNext _ ih | clearLocal _ ih | markExclusive _ ih | memWrite _ _ ih | wrFpcr _ _ ih =>
    exact ih
  | setFlags may _ _ => simp [may] at hi
  | rndrDraw may _ _ => obtain rfl | rfl := may <;> cases hi
  | host may _ => obtain ⟨imm16, rfl⟩ := may; cases hi

theorem mem (hi : mayWriteMemory i = false) (h : s.Effect i t) : t.mem = s.mem := by
  induction h with
  | refl => rfl
  | wrRz _ ih | wrRsp _ ih | rndrDraw _ _ ih => simpa using ih
  | branchTo _ ih | setBTypeNext _ ih | clearLocal _ ih | markExclusive _ ih | setFlags _ _ ih | wrFpcr _ _ ih =>
    exact ih
  | memWrite may _ _ => simp [may] at hi
  | host may _ => obtain ⟨imm16, rfl⟩ := may; cases hi

section NoHlt

variable (hlt : ∀ imm16, i ≠ .hlt imm16)
include hlt

theorem fpcr (hi : ∀ rt, i ≠ .msrFpcr rt) (h : s.Effect i t) : t.fpcr = s.fpcr := by
  induction h with
  | refl => rfl
  | wrRz _ ih | wrRsp _ ih | rndrDraw _ _ ih => simpa using ih
  | branchTo _ ih | setBTypeNext _ ih | clearLocal _ ih | markExclusive _ ih | setFlags _ _ ih | memWrite _ _ ih =>
    exact ih
  | wrFpcr may _ _ => obtain ⟨rt, e⟩ := may; exact absurd e (hi rt)
  | host may _ => obtain ⟨imm16, e⟩ := may; exact absurd e (hlt imm16)

theorem rndr (hi : ∀ rt, i ≠ .mrsRndr rt) (hi' : ∀ rt, i ≠ .mrsRndrrs rt) (h : s.Effect i t) : t.rndr = s.rndr := by
  induction h with
  | refl => rfl
  | wrRz _ ih | wrRsp _ ih => simpa using ih
  | branchTo _ ih | setBTypeNext _ ih | clearLocal _ ih | markExclusive _ ih | setFlags _ _ ih | memWrite _ _ ih
  | wrFpcr _ _ ih => exact ih
  | rndrDraw may _ _ =>
    obtain e | e := may
    · exact absurd e (hi _)
    · exact absurd e (hi' _)
  | host may _ => obtain ⟨imm16, e⟩ := may; exact absurd e (hlt imm16)

/-- Vector and predicate registers, the feature set and the counter of free values are the host's alone. -/
theorem units (h : s.Effect i t) :
    t.z = s.z ∧ t.p = s.p ∧ t.features = s.features ∧ t.freeCount = s.freeCount := by
  induction h with
  | refl => exact ⟨rfl, rfl, rfl, rfl⟩
  | wrRz _ ih | wrRsp _ ih | rndrDraw _ _ ih => simpa using ih
  | branchTo _ ih | setBTypeNext _ ih | clearLocal _ ih | markExclusive _ ih | setFlags _ _ ih | memWrite _ _ ih
  | wrFpcr _ _ ih => exact ih
  | host may _ => obtain ⟨imm16, e⟩ := may; exact absurd e (hlt imm16)

end NoHlt

theorem store {addr : Word} {n w : Nat} {v : BitVec w} (may : mayWriteMemory i = true) (h : s.Effect i t) :
    s.Effect i (t.store addr n v) := (h.memWrite may).clearLocal

theorem branchIf {b : Bool} {target : Word} (h : s.Effect i t) : s.Effect i (t.branchIf b target) := by
  unfold State.branchIf; split
  · exact h.branchTo
  · exact h

end State.Effect

/-! ## What an instruction answers -/

/-- What instruction `i` can answer in `s`: an effect, a fault that records PC, or a refusal that records PC and
the instruction (R452, R453, R465). -/
inductive Answers (i : Instr) (s : State) : Result → Prop
  | next {t : State} (h : s.Effect i t) : Answers i s (.next t)
  | fault {f : Fault} (h : f.pc = s.pc) : Answers i s (.fault f)
  | refused {q : Refusal} (h : q.pc? = some s.pc) (h' : q.command? = some (.instr i)) : Answers i s (.refused q)

namespace Answers

theorem effect (h : Answers i s (.next t)) : s.Effect i t := by
  cases h with
  | next h => exact h

theorem good (h : Answers i s k) : Good (.instr i) s k := by
  cases h with
  | next h => exact .next h.kept
  | fault h => exact .raise (f := fun _ => _) h
  | refused h h' => exact .refuse (f := fun _ => _) h h'

/-! ### Checks -/

theorem ite {p : Prop} [Decidable p] {a b : Result} (ha : Answers i s a) (hb : Answers i s b) :
    Answers i s (if p then a else b) := by
  split
  · exact ha
  · exact hb

theorem whenWellFormed {j : Instr} (h : Answers i s k) : Answers i s (whenWellFormed j s k) := ite h (.fault rfl)

theorem logicalImmediate {j : Instr} {n : Nat} {nBit : Bool} {imms immr : BitVec 6} {f : BitVec n → Result}
    (h : ∀ imm, Answers i s (f imm)) : Answers i s (logicalImmediate j s n nBit imms immr f) := by
  unfold Machine.logicalImmediate; split
  · exact h _
  · exact .fault rfl

theorem checkSp {rn : RegNum} (h : Answers i s k) : Answers i s (s.checkSp rn k) := ite (.fault rfl) h

theorem checkValid {addr : Word} {n : Nat} (h : Answers i s k) : Answers i s (s.checkValid addr n k) :=
  ite h (.fault rfl)

theorem checkPair {addr : Word} {n : Nat} (h : Answers i s k) : Answers i s (s.checkPair addr n k) :=
  checkValid (checkValid h)

theorem checkAtomic {rn : RegNum} {n : Nat} (h : Answers i s k) : Answers i s (s.checkAtomic rn n k) :=
  checkSp (ite (.fault rfl) (checkValid h))

theorem checkWriteback {rn rt : RegNum} (h : Answers i s k) : Answers i s (s.checkWriteback (.instr i) rn rt k) :=
  ite (.refused rfl rfl) h

theorem checkLoadPair {rt rt2 : RegNum} (h : Answers i s k) : Answers i s (s.checkLoadPair (.instr i) rt rt2 k) :=
  ite (.refused rfl rfl) h

theorem checkStatusRegister {rs rn rt : RegNum} (h : Answers i s k) :
    Answers i s (s.checkStatusRegister (.instr i) rs rn rt k) := ite (.refused rfl rfl) h

/-! ### Loads and stores -/

section Accesses

variable {rs rn rt rt2 : RegNum} {addr back : Word} {size n : Nat} {signed : Bool} {sz : AccessSize}

theorem load : Answers i s (s.load rn rt addr size signed n) := checkSp (checkValid (.next (.wrRz .refl)))

theorem loadIndexed : Answers i s (s.loadIndexed (.instr i) rn rt addr back size signed n) :=
  checkWriteback (checkSp (checkValid (.next (.wrRsp (.wrRz .refl)))))

theorem loadPair : Answers i s (s.loadPair (.instr i) rn rt rt2 addr size signed n) :=
  checkLoadPair (checkSp (checkPair (.next (.wrRz (.wrRz .refl)))))

theorem loadPairIndexed : Answers i s (s.loadPairIndexed (.instr i) rn rt rt2 addr back size signed n) :=
  checkLoadPair (checkWriteback (checkWriteback (checkSp (checkPair (.next (.wrRsp (.wrRz (.wrRz .refl))))))))

theorem loadLiteral : Answers i s (s.loadLiteral rt addr size signed n) := checkValid (.next (.wrRz .refl))

theorem loadExclusive : Answers i s (s.loadExclusive sz rn rt) := checkAtomic (.next (.markExclusive (.wrRz .refl)))

theorem loadAcquire : Answers i s (s.loadAcquire sz rn rt) := checkAtomic (.next (.wrRz .refl))

section Stores

variable (may : mayWriteMemory i = true)
include may

theorem storeAt : Answers i s (s.storeAt rn rt addr size) := checkSp (checkValid (.next (.store may .refl)))

theorem storeIndexed : Answers i s (s.storeIndexed (.instr i) rn rt addr back size) :=
  checkWriteback (checkSp (checkValid (.next (.wrRsp (.store may .refl)))))

theorem storePair : Answers i s (s.storePair rn rt rt2 addr size) :=
  checkSp (checkPair (.next (.store may (.memWrite may .refl))))

theorem storePairIndexed : Answers i s (s.storePairIndexed (.instr i) rn rt rt2 addr back size) :=
  checkWriteback (checkWriteback (checkSp (checkPair (.next (.wrRsp (.store may (.memWrite may .refl)))))))

theorem storeExclusive : Answers i s (s.storeExclusive (.instr i) sz rs rn rt) :=
  checkStatusRegister (checkAtomic (ite (.next (.wrRz (.store may .refl))) (.next (.wrRz (.clearLocal .refl)))))

theorem storeRelease : Answers i s (s.storeRelease sz rn rt) := checkAtomic (.next (.store may .refl))

theorem compareAndSwap (acq rel : Bool) : Answers i s (execCas sz acq rs rel rn rt s) := by
  refine checkAtomic (.next (.wrRz ?_))
  split
  · exact .store may .refl
  · exact .refl

end Stores

end Accesses

/-! ### System instructions -/

theorem hint {imm7 : BitVec 7} : Answers (.hint imm7) s (execHint imm7 s) := by
  unfold execHint; split
  · exact .refused rfl rfl
  · exact .next .refl

theorem hlt {imm16 : BitVec 16} : Answers (.hlt imm16) s (execHlt imm16 s) := by
  unfold execHlt; split
  · next t words e =>
    obtain ⟨service, -, h⟩ := Option.bind_eq_some_iff.mp e
    exact .next (.host ⟨imm16, rfl⟩ (State.Kept.hostEffect h).branchTo)
  · exact .fault rfl

end Answers

/-- Every instruction, by the shared operation its meaning is made of. -/
theorem exec_answers (i : Instr) (s : State) : Answers i s (exec i s) := by
  cases i
  case adc | sbc | csel | csinc | csinv | csneg | adr | adrp | mrsNzcv | mrsFpcr => exact .next (.wrRz .refl)
  case rbit | rev16 | revW | rev32 | revX | clz | cls => exact .next (.wrRz .refl)
  case udiv | sdiv | smulh | umulh | lslv | lsrv | asrv | rorv => exact .next (.wrRz .refl)
  case crc32b | crc32h | crc32w | crc32x | crc32cb | crc32ch | crc32cw | crc32cx => exact .next (.wrRz .refl)
  case madd | msub | smaddl | smsubl | umaddl | umsubl => exact .next (.wrRz .refl)
  case addShiftedRegister | subShiftedRegister | andShiftedRegister | bicShiftedRegister | orrShiftedRegister
      | ornShiftedRegister | eorShiftedRegister | eonShiftedRegister | movn | movz | movk | sbfm | bfm | ubfm | extr =>
    exact .whenWellFormed (.next (.wrRz .refl))
  case addImmediate | subImmediate => exact .next (.wrRsp .refl)
  case addExtendedRegister | subExtendedRegister => exact .whenWellFormed (.next (.wrRsp .refl))
  case andImmediate | orrImmediate | eorImmediate => exact .logicalImmediate fun _ => .next (.wrRsp .refl)
  case addsImmediate | subsImmediate | adcs | sbcs => exact .next (.setFlags rfl (.wrRz .refl))
  case addsShiftedRegister | subsShiftedRegister | addsExtendedRegister | subsExtendedRegister
      | andsShiftedRegister | bicsShiftedRegister =>
    exact .whenWellFormed (.next (.setFlags rfl (.wrRz .refl)))
  case andsImmediate => exact .logicalImmediate fun _ => .next (.setFlags rfl (.wrRz .refl))
  case ccmnRegister | ccmpRegister | ccmnImmediate | ccmpImmediate | msrNzcv => exact .next (.setFlags rfl .refl)
  case b | ret => exact .next (.branchTo .refl)
  case bl => exact .next (.branchTo (.wrRz .refl))
  case bCond | cbz | cbnz | tbz | tbnz => exact .next (.branchIf .refl)
  case br => exact .next (.setBTypeNext (.branchTo .refl))
  case blr => exact .next (.setBTypeNext (.branchTo (.wrRz .refl)))
  case msrFpcr rt => exact .next (.wrFpcr ⟨rt, rfl⟩ .refl)
  case mrsRndr => exact .next (.rndrDraw (.inl rfl) .refl)
  case mrsRndrrs => exact .next (.rndrDraw (.inr rfl) .refl)
  case nop | esb | csdb | bti | btiC | btiJ | btiJc | dsb | dmb | isb => exact .next .refl
  case hint => exact .hint
  case clrex => exact .next (.clearLocal .refl)
  case sys => exact .ite (.fault rfl) (.next .refl)
  case hlt => exact .hlt
  case udf => exact .fault rfl
  case ldrbUnsignedOffset | ldurb | ldrhUnsignedOffset | ldurh | ldrWUnsignedOffset | ldurW | ldrXUnsignedOffset
      | ldurX | ldrsbXUnsignedOffset | ldursbX | ldrsbWUnsignedOffset | ldursbW | ldrshXUnsignedOffset | ldurshX
      | ldrshWUnsignedOffset | ldurshW | ldrswUnsignedOffset | ldursw => exact .load
  case ldrbRegisterOffset | ldrhRegisterOffset | ldrWRegisterOffset | ldrXRegisterOffset | ldrsbXRegisterOffset
      | ldrsbWRegisterOffset | ldrshXRegisterOffset | ldrshWRegisterOffset | ldrswRegisterOffset =>
    exact .whenWellFormed .load
  case ldrbPostIndex | ldrbPreIndex | ldrhPostIndex | ldrhPreIndex | ldrWPostIndex | ldrWPreIndex | ldrXPostIndex
      | ldrXPreIndex | ldrsbXPostIndex | ldrsbXPreIndex | ldrsbWPostIndex | ldrsbWPreIndex | ldrshXPostIndex
      | ldrshXPreIndex | ldrshWPostIndex | ldrshWPreIndex | ldrswPostIndex | ldrswPreIndex => exact .loadIndexed
  case ldpWOffset | ldpXOffset => exact .loadPair
  case ldpWPostIndex | ldpWPreIndex | ldpXPostIndex | ldpXPreIndex => exact .loadPairIndexed
  case ldrWLiteral | ldrXLiteral | ldrswLiteral => exact .loadLiteral
  case ldxr | ldaxr => exact .loadExclusive
  case ldar | ldapr => exact .loadAcquire
  case strbUnsignedOffset | sturb | strhUnsignedOffset | sturh | strWUnsignedOffset | sturW | strXUnsignedOffset
      | sturX => exact .storeAt rfl
  case strbRegisterOffset | strhRegisterOffset | strWRegisterOffset | strXRegisterOffset =>
    exact .whenWellFormed (.storeAt rfl)
  case strbPostIndex | strbPreIndex | strhPostIndex | strhPreIndex | strWPostIndex | strWPreIndex | strXPostIndex
      | strXPreIndex => exact .storeIndexed rfl
  case stpWOffset | stpXOffset => exact .storePair rfl
  case stpWPostIndex | stpWPreIndex | stpXPostIndex | stpXPreIndex => exact .storePairIndexed rfl
  case stxr | stlxr => exact .storeExclusive rfl
  case stlr => exact .storeRelease rfl
  case cas _ acq _ rel _ _ => exact .compareAndSwap rfl acq rel
  case swp | ldadd | ldclr | ldeor | ldset | ldsmax | ldsmin | ldumax | ldumin => 
    exact .checkAtomic (.next (.wrRz (.store rfl .refl)))

end Sys2Proof.Machine
end

section
/-! PROOFS. Every native command keeps what no instruction breaks, and a stop of it records PC and the command. -/

namespace Sys2Proof.Machine

variable {s t u : State} {k : Result} {c : NativeCmd}

namespace Good

theorem casp (sf acq rel : Bool) (rs rn rt : RegNum) (s : State) :
    Good (.native (.casp sf acq rel rs rn rt)) s (execCasp sf acq rel rs rn rt s) := by
  refine whenNative (checkAtomic (next (.wrRz (.wrRz ?_))))
  split
  · exact .store (.memWrite (.refl s))
  · exact .refl s

theorem ldpsw (mode : PairMode) (rt2 rn rt : RegNum) (s : State) :
    Good (.native (.ldpsw mode rt2 rn rt)) s (execLdpsw mode rt2 rn rt s) := by
  cases mode with
  | offset => exact checkLoadPair (checkSp (checkPair (next (.wrRz (.wrRz (.refl s))))))
  | post | pre =>
    exact checkLoadPair (checkWriteback (checkWriteback (checkSp (checkPair
      (next (.wrRsp (.wrRz (.wrRz (.refl s)))))))))

theorem fmovToGeneral (form : FmovForm) (vn rd : RegNum) (s : State) :
    Good (.native (.fmovToGeneral form vn rd)) s (execFmovToGeneral form vn rd s) := by
  refine whenFp ?_
  cases form <;> exact next (.wrRz (.refl s))

theorem fmovFromGeneral (form : FmovForm) (rn vd : RegNum) (s : State) :
    Good (.native (.fmovFromGeneral form rn vd)) s (execFmovFromGeneral form rn vd s) := by
  refine whenFp ?_
  cases form with
  | wh | xh | ws | xd => exact next (.wrV (.refl s))
  | xTop => exact next (.wrZ (.refl s))

theorem movprfx (form : MovprfxForm) (size : AccessSize) (zn zd : RegNum) (s : State) :
    Good (.native (.movprfx form size zn zd)) s (execMovprfx form size zn zd s) := by
  cases form <;> exact next (.wrZ (.refl s))

end Good

/-- Every native command, by the registers it writes. -/
theorem execNative_good (c : NativeCmd) (s : State) : Good (.native c) s (execNative c s) := by
  cases c
  case ldpsw => exact .ldpsw ..
  case ldxp =>
    exact .checkLoadPair (.checkAtomic (.next (.markExclusive (.wrRz (.wrRz (.refl s))))))
  case stxp =>
    exact .checkStatusRegister (.checkStatusRegister (.checkAtomic (.ite
      (.next (.wrRz (.store (.memWrite (.refl s))))) (.next (.wrRz (.clearLocal (.refl s)))))))
  case casp => exact .casp ..
  case ldapur => exact .checkSp (.checkLine (.checkValid (.next (.wrRz (.refl s)))))
  case stlur => exact .checkSp (.checkLine (.checkValid (.next (.store (.refl s)))))
  case ldrVector => exact .whenNative (.checkSp (.checkValid (.next (.writeBack (.wrV (.refl s))))))
  case strVector => exact .whenNative (.checkSp (.checkValid (.next (.writeBack (.store (.refl s))))))
  case ldpVector =>
    exact .whenNative (.checkLoadPair (.checkSp (.checkPair (.next (.writeBack (.wrV (.wrV (.refl s))))))))
  case stpVector =>
    exact .whenNative (.checkSp (.checkPair (.next (.writeBack (.store (.memWrite (.refl s)))))))
  case ldrVectorLiteral => exact .whenNative (.checkValid (.next (.wrV (.refl s))))
  case pac op fields =>
    exact .refuse (f := (.pointerAuthentication · (pacName op) (.native (.pac op fields)))) rfl rfl
  case unmodelled op fields => exact .raise (f := (.unimplemented · (.native (.unmodelled op fields)))) rfl
  case fmovImmediate | fp1 | fp2 | fp3 | fcsel => exact .whenFp (.next (.wrV (.refl s)))
  case fcvt | intToFp => exact .whenNativeFp (.next (.wrV (.refl s)))
  case fcmp | fccmp => exact .whenFp (.next (.setFlags (.refl s)))
  case fpToInt => exact .whenNativeFp (.next (.wrRz (.refl s)))
  case fjcvtzs => exact .whenFp (.next (.setFlags (.wrRz (.refl s))))
  case fmovToGeneral => exact .fmovToGeneral ..
  case fmovFromGeneral => exact .fmovFromGeneral ..
  case simdArith | simdWiden | simdNarrow | simdReduce | simdTable | simdPermute | simdExt | simdRev =>
    exact .whenNative (.next (.wrV (.refl s)))
  case simdCompare => exact .next (.wrV (.refl s))
  case simdFpCompare => exact .whenFp (.next (.wrV (.refl s)))
  case simdFp1 | simdFp2 | simdFmla => exact .whenFp (.next (.drawnBy (.wrV (.refl s))))
  case simdFpReduce | simdFpToInt => exact .whenNativeFp (.next (.wrV (.refl s)))
  case simdFcvtl | simdFcvtn | simdFpPairwise | simdIntToFp =>
    exact .whenNativeFp (.next (.drawnBy (.wrV (.refl s))))
  case ptest | cterm => exact .next (.setFlags (.refl s))
  case pfalse => exact .next (.wrP (.refl s))
  case ptrue | predLogical | sveCompare => exact .next (.wrPredFlags (.refl s))
  case whileLanes => exact .next (.drawn (.wrPredFlags (.refl s)))
  case index => exact .next (.wrZ (.refl s))
  case incDec => exact .next (.adjust (.refl s))
  case incDecVector => exact .whenNative (.next (.wrZ (.refl s)))
  case movprfx => exact .movprfx ..
  case ldrZ => exact .checkSp (.checkValid (.next (.wrZ (.refl s))))
  case ldrP => exact .checkSp (.checkValid (.next (.wrP (.refl s))))
  case strZ | strP => exact .checkSp (.checkValid (.next (.store (.refl s))))

end Sys2Proof.Machine
end

section
/-! PROOFS. When a step answers a next state and which (R320), and the invariant along steps, resets and starts
of a run. -/

namespace Sys2Proof.Machine

variable {s t u : State} {k : Result}

/-! ## What a step answers -/

theorem State.beforeDecode_next : s.beforeDecode k = .next t ↔
    s.status = .running ∧
      ((s.pc = endOfSimAddress ∧ t = { s with status := .exited }) ∨
        (s.pc ≠ endOfSimAddress ∧ s.pc.toNat % 4 = 0 ∧ s.memValid s.pc 4 = true ∧ k = .next t)) := by
  unfold State.beforeDecode
  by_cases hs : s.status = .running
  · by_cases hp : s.pc = endOfSimAddress
    · simp only [hs, hp, ne_eq, not_true_eq_false, if_false, if_true, true_and, false_and, or_false,
        Host.Outcome.next.injEq]
      exact eq_comm
    · by_cases ha : s.pc.toNat % 4 = 0
      · simp [hs, hp, ha, State.checkValid_next]
      · simp [hs, hp, ha, State.raise]
  · simp [hs]

theorem State.btiCheck_next {permits : Bool} (h : s.btiCheck permits k = .next t) : k = .next t := by
  unfold State.btiCheck at h
  split at h
  · cases h
  · exact h

theorem onNext_next {f : State → State} (h : onNext k f = .next t) : ∃ u, k = .next u ∧ t = f u := by
  cases k with
  | next u => exact ⟨u, rfl, by cases h; rfl⟩
  | fault | refused => cases h

theorem whenNative_next {c : NativeCmd} (h : whenNative c s k = .next t) : k = .next t := by
  unfold whenNative at h
  split at h
  · exact h
  · cases h

theorem State.runInstr_next {i : Instr} (h : s.runInstr i = .next t) :
    ∃ u, exec i s.begin = .next u ∧ t = u.retire false :=
  onNext_next (State.btiCheck_next h)

theorem State.runNative_next {c : NativeCmd} (h : s.runNative c = .next t) :
    ∃ u, execNative c s.begin = .next u ∧ t = u.retire (isMovprfx c) :=
  onNext_next (State.btiCheck_next (whenNative_next h))

/-- A word that is no instruction stops the machine. -/
theorem State.runRejected_ne_next {word : BitVec 32} {r : Reject} : s.runRejected word r ≠ .next t := by
  intro h
  cases r with
  | unallocated => cases h
  | unimplemented | pointerAuthentication => cases State.btiCheck_next h

/-- A step ends the run, or executes the instruction at PC and retires it (R320). -/
theorem step_next (h : step s = .next t) : s.status = .running ∧
    ((s.pc = endOfSimAddress ∧ t = { s with status := .exited }) ∨
      ∃ i u, s.pc ≠ endOfSimAddress ∧ decode s.fetchWord = .instr i ∧ exec i s.begin = .next u ∧
        t = u.retire false) := by
  obtain ⟨hs, he | ⟨hp, -, -, h⟩⟩ := State.beforeDecode_next.mp h
  · exact ⟨hs, .inl he⟩
  · split at h
    · next i hi =>
      obtain ⟨u, hu, ht⟩ := State.runInstr_next h
      exact ⟨hs, .inr ⟨i, u, hp, hi, hu, ht⟩⟩
    · exact absurd h State.runRejected_ne_next

/-- The same of a step that runs a native command (R90). -/
theorem stepNative_next {c : NativeCmd} (h : stepNative c s = .next t) :
    t = { s with status := .exited } ∨ ∃ u, execNative c s.begin = .next u ∧ t = u.retire (isMovprfx c) := by
  obtain ⟨-, ⟨-, he⟩ | ⟨-, -, -, h⟩⟩ := State.beforeDecode_next.mp h
  · exact .inl he
  · exact .inr (State.runNative_next h)

/-- A machine that is not running is refused a step (R49). -/
theorem step_of_not_running (h : s.status ≠ .running) : step s = .refused .notRunning := if_pos h

theorem advance_of_not_running (h : s.status ≠ .running) : advance s = s := by
  unfold advance
  split
  · next e => exact absurd e h
  · rfl

/-! ## The invariant along a step -/

namespace State.Inv

/-- The end of the run changes the status alone. -/
theorem exited (h : s.Inv) : State.Inv { s with status := .exited } := ⟨h.1, h.2, h.3, h.4, h.5⟩

/-- What an instruction keeps is all the invariant asks of the state it leaves, for retiring it sets the next
BType to Default. -/
theorem retire {b : Bool} (h : s.Inv) (kept : s.begin.Kept u) : (u.retire b).Inv where
  memory := kept.memory h.memory
  vectors := kept.vectors h.vectors
  predicates := kept.predicates h.predicates
  btypeNext := rfl
  platform := (congrArg Platform.wf kept.platform).trans h.platform

theorem step (h : s.Inv) (hs : step s = .next t) : t.Inv := by
  obtain ⟨-, ⟨-, rfl⟩ | ⟨i, u, -, -, hu, rfl⟩⟩ := step_next hs
  · exact h.exited
  · exact h.retire ((exec_answers i s.begin).good.1 u hu)

theorem stepNative {c : NativeCmd} (h : s.Inv) (hs : stepNative c s = .next t) : t.Inv := by
  obtain rfl | ⟨u, hu, rfl⟩ := stepNative_next hs
  · exact h.exited
  · exact h.retire ((execNative_good c s.begin).1 u hu)

end State.Inv

/-! ## Reset -/

/-- General registers right after reset (R46). -/
theorem State.xReg_resetWith (p : Platform) {i : Nat} (h : i < 31) :
    (State.resetWith p).xReg i = if i = 30 then endOfSimAddress else xregReset := by
  simp [State.xReg, State.resetWith, h]

/-- N:Z:C:V read back from the flags they stand for. -/
theorem Nzcv.toBits_ofBits (v : BitVec 4) : (Nzcv.ofBits v).toBits = v := by
  revert v; decide

/-- A vector register right after its reset to the machine's own VL (R50). -/
theorem State.zReg_of_vectorsAtReset {vl : Nat} (hz : s.z = vectorsAtReset vl) (hv : s.platform.vl = vl)
    (i : RegNum) :
    s.zReg i = Config.vregReset i.toNat &&& s.zMask := by
  rw [State.zReg, State.zMask, hz, hv, getElem_vectorsAtReset]

/-- A predicate register right after its reset to the machine's own VL/8 (R50). -/
theorem State.pReg_of_predicatesAtReset {vl : Nat} (hp : s.p = predicatesAtReset vl) (hv : s.platform.vl = vl)
    (i : BitVec 4) : s.pReg i = Config.pregReset i.toNat &&& s.pMask := by
  rw [State.pReg, State.pMask, hp, hv, getElem_predicatesAtReset]

/-- Registers as reset leaves them fit the machine's lengths. -/
theorem State.Inv.ofReset {vl : Nat} (hm : Memory.wf s.mem = true) (hz : s.z = vectorsAtReset vl)
    (hp : s.p = predicatesAtReset vl) (hv : s.platform.vl = vl) (hb : s.btypeNext = .default)
    (hw : s.platform.wf = true) : s.Inv where
  memory := hm
  vectors i := by rw [State.zReg_of_vectorsAtReset hz hv, BitVec.and_assoc, BitVec.and_self]
  predicates i := by rw [State.pReg_of_predicatesAtReset hp hv, BitVec.and_assoc, BitVec.and_self]
  btypeNext := hb
  platform := hw

theorem Platform.default_wf : Platform.default.wf = true := by decide

/-! ## Obligations -/

/-- Settles O4: a step ends the run or retires an instruction, and every instruction keeps the invariant. -/
theorem stepKeepsInvariant : Obligations.StepKeepsInvariant := by
  unfold Obligations.StepKeepsInvariant
  exact fun _ _ h hs => h.step hs

/-- Settles O5: the same of native commands. -/
theorem nativeStepKeepsInvariant : Obligations.NativeStepKeepsInvariant := by
  unfold Obligations.NativeStepKeepsInvariant
  exact fun _ _ _ h hs => h.stepNative hs

/-- Settles O10: the status is the first thing a step checks. -/
theorem stoppedIsTerminal : Obligations.StoppedIsTerminal := by
  unfold Obligations.StoppedIsTerminal
  exact fun s => ⟨fun _ h => (step_next h).1, fun h =>
    ⟨step_of_not_running h, Function.iterate_fixed (advance_of_not_running h)⟩⟩

/-- Settles O1, from the registers that reset writes. -/
theorem resetGeneralRegisters : Obligations.ResetGeneralRegisters := by
  unfold Obligations.ResetGeneralRegisters
  refine ⟨fun p hp => ⟨fun i hi => ?_, ?_, rfl, ?_⟩, rfl, Platform.default_wf⟩
  · rw [State.xReg_resetWith p (by omega), if_neg (by omega)]; rfl
  · rw [State.xReg_resetWith p (by omega), if_pos rfl]; rfl
  · simp only [Platform.wf, Bool.and_eq_true, decide_eq_true_eq] at hp
    obtain ⟨⟨⟨-, aligned⟩, -⟩, -⟩ := hp
    exact aligned

/-- Settles O2: each field as reset, a change of VL and the start of a run write it. -/
theorem resetOtherState : Obligations.ResetOtherState := by
  unfold Obligations.ResetOtherState
  intro p _
  refine ⟨Nzcv.toBits_ofBits _, rfl, rfl, State.zReg_of_vectorsAtReset rfl rfl,
    State.pReg_of_predicatesAtReset rfl rfl, rfl, rfl, rfl, rfl, rfl, rfl, rfl, rfl, rfl, rfl, rfl, rfl, rfl, rfl,
    fun u vl entry => ⟨⟨rfl, rfl, rfl, rfl, rfl⟩, ?_,
      ⟨u.withVl_platform vl, State.zReg_of_vectorsAtReset (u.withVl_z vl) rfl,
        State.pReg_of_predicatesAtReset (u.withVl_p vl) rfl, by unfold State.withVl; rfl⟩, rfl, rfl, rfl⟩⟩
  rintro rfl
  rfl

/-- Settles O3: reset registers fit VL, and the host's other actions change nothing the invariant speaks of. -/
theorem resetInvariant : Obligations.ResetInvariant := by
  unfold Obligations.ResetInvariant
  exact ⟨fun p hp => .ofReset rfl rfl rfl rfl rfl hp, .ofReset rfl rfl rfl rfl rfl Platform.default_wf, fun s h =>
    ⟨.ofReset h.memory rfl rfl rfl rfl h.platform, fun vl hv =>
      .ofReset (by simpa using h.memory) (s.withVl_z vl) (s.withVl_p vl) rfl (by simpa using h.btypeNext) hv,
      fun entry => ⟨h.memory, h.vectors, h.predicates, h.btypeNext, h.platform⟩⟩⟩

end Sys2Proof.Machine
end

section
/-! PROOFS. Reads of registers after writes (R22 to R27), and the moves of system registers (R33, R380 to R383). -/

namespace Sys2Proof.Machine

variable (s : State)

/-! ## Register accesses -/

theorem State.rz_of_ne {n : Nat} {i : RegNum} (h : i ≠ 31#5) : s.rz n i = (s.xReg i.toNat).setWidth n := if_neg h

theorem State.rsp_of_ne {n : Nat} {i : RegNum} (h : i ≠ 31#5) : s.rsp n i = (s.xReg i.toNat).setWidth n := if_neg h

@[simp] theorem State.rsp_31 (n : Nat) : s.rsp n 31#5 = s.sp.setWidth n := if_pos rfl

/-- A register read after it was written: the value through the 64 bits of the register (R23 to R25). -/
theorem State.rz_wrRz_same {n m : Nat} {i : RegNum} (h : i ≠ 31#5) (v : BitVec n) :
    (s.wrRz i v).rz m i = (v.setWidth 64).setWidth m := by
  rw [State.rz_of_ne _ h, State.xReg_wrRz, if_pos ⟨h, rfl⟩]

/-- The W read of a register is the low half of its X read (R24). -/
theorem State.setWidth_rz (i : RegNum) : (s.rz 64 i).setWidth 32 = s.rz 32 i := by
  by_cases h : i = 31#5
  · simp [h]
  · rw [State.rz_of_ne s h, State.rz_of_ne s h, BitVec.setWidth_eq]

/-- Zero-extension of 32 bits, as a mask. -/
theorem setWidth_64_eq_and (w : BitVec 32) : w.setWidth 64 = w.setWidth 64 &&& 0xFFFFFFFF#64 := by
  have hw := w.isLt
  have hm : w.toNat &&& 0xFFFFFFFF = w.toNat % 2 ^ 32 := Nat.and_two_pow_sub_one_eq_mod w.toNat 32
  apply BitVec.eq_of_toNat_eq
  rw [BitVec.toNat_and, BitVec.toNat_setWidth, BitVec.toNat_ofNat, Nat.mod_eq_of_lt (by omega : w.toNat < 2 ^ 64),
    show 0xFFFFFFFF % 2 ^ 64 = 0xFFFFFFFF by rfl, hm]
  omega

/-! ## System registers -/

/-- The flags stand in bits 31 to 28 of NZCV, every other bit is zero (R33). -/
theorem Nzcv.getLsbD_toRegister (f : Nzcv) (i : Nat) : f.toRegister.getLsbD i =
    ((i == 31 && f.n) || (i == 30 && f.z) || (i == 29 && f.c) || (i == 28 && f.v)) := by
  by_cases h : i < 32
  · obtain ⟨n, z, c, v⟩ := f
    revert n z c v i
    decide
  · have high : (f.toBits ++ 0#28).getLsbD i = false := BitVec.getLsbD_of_ge _ _ (by omega)
    have off (k : Nat) (hk : k < 32) : (i == k) = false := beq_false_of_ne (by omega)
    simp [Nzcv.toRegister, high, off]

/-- The flags a write of NZCV leaves, bit by bit (R33). -/
theorem Nzcv.ofRegister_eq (v : Word) : Nzcv.ofRegister v =
    { n := v.getLsbD 31, z := v.getLsbD 30, c := v.getLsbD 29, v := v.getLsbD 28 } := by
  simp [Nzcv.ofRegister, Nzcv.ofBits]

/-- A draw writes Xt, the flags and the generator alone (R383). -/
theorem State.rndrDraw_frame (rt : RegNum) :
    { s.rndrDraw rt with rndr := s.rndr, x := s.x, nzcv := s.nzcv } = s := by
  unfold State.rndrDraw State.wrRz
  split <;> rfl

theorem exec_rndr {i : Instr} {rt : RegNum} (hi : i ∈ [Instr.mrsRndr rt, .mrsRndrrs rt]) :
    exec i s = .next (s.rndrDraw rt) := by
  simp only [List.mem_cons, List.not_mem_nil, or_false] at hi
  obtain rfl | rfl := hi <;> rfl

/-! ## Obligations -/

/-- Settles O15, from what a write leaves to read. -/
theorem registerAccess : Obligations.RegisterAccess := by
  unfold Obligations.RegisterAccess
  intro s sf i v
  refine ⟨s.rz_31 _, s.rsp_31 _, fun h => ⟨s.rz_of_ne h, s.rsp_of_ne h⟩, s.onlyRz_wrRz i v, s.onlyRsp_wrRsp i v,
    State.rz_31 _ _, fun h w => ?_, fun h x => ⟨?_, ?_⟩⟩
  · rw [State.rz_wrRz_same s h, BitVec.setWidth_eq]
    exact setWidth_64_eq_and w
  · rw [State.rz_wrRz_same s h, BitVec.setWidth_eq, BitVec.setWidth_eq]
  · rw [State.rz_wrRz_same s h, BitVec.setWidth_eq]

/-- Settles O40: each move is one write of a register, of the flags or of FPCR. -/
theorem systemRegisterMoves : Obligations.SystemRegisterMoves := by
  unfold Obligations.SystemRegisterMoves
  intro s rt
  refine ⟨⟨_, _, rfl, s.onlyRz_wrRz rt _, fun i _ => s.nzcv.getLsbD_toRegister i⟩, ⟨_, rfl, ?_⟩,
    ⟨_, rfl, s.onlyRz_wrRz rt _⟩, ?_, fun i hi => ⟨_, exec_rndr s hi, ?_⟩⟩
  · rw [← Nzcv.ofRegister_eq]
    exact s.onlyFlags_setFlags _
  · rw [State.setWidth_rz]; rfl
  · have only := s.onlyRz_wrRz rt (Config.rndrNext s.rndr).1
    obtain ⟨⟨dest, others, sp⟩, -, ⟨⟨pc, pcModified, btypeNext⟩, memory, -⟩⟩ := only
    exact ⟨⟨dest, others, sp⟩, rfl, rfl, ⟨pc, pcModified, btypeNext⟩, ⟨memory.1, memory.2, memory.3, memory.4⟩,
      s.rndrDraw_frame rt⟩

end Sys2Proof.Machine
end

section
/-! PROOFS. Who may write what (R32), and that no instruction but HLT depends on the feature set (R53) or on the
host's snapshots (R52). -/

namespace Sys2Proof.Machine

variable {s t : State} {i : Instr} {fs : List Feature}

/-! ## The feature set -/

namespace Features

theorem logicalImmediate {j : Instr} {n : Nat} {nBit : Bool} {imms immr : BitVec 6} {f g : BitVec n → Result}
    (h : ∀ imm, g imm = withFeatures fs (f imm)) :
    logicalImmediate j (s.withFeatures fs) n nBit imms immr g =
      withFeatures fs (logicalImmediate j s n nBit imms immr f) := by
  unfold Machine.logicalImmediate; split
  · exact h _
  · rfl

theorem hint (imm7 : BitVec 7) : execHint imm7 (s.withFeatures fs) = withFeatures fs (execHint imm7 s) := by
  unfold execHint; split <;> rfl

theorem wrRzLogicalFlags {n : Nat} (rd : RegNum) (r : BitVec n) :
    (s.withFeatures fs).wrRzLogicalFlags rd r = (s.wrRzLogicalFlags rd r).withFeatures fs :=
  congrArg (State.setFlags · (logicalFlags n r)) (wrRz rd r)

theorem compareAndSwap (size : AccessSize) (acq rel : Bool) (rs rn rt : RegNum) :
    execCas size acq rs rel rn rt (s.withFeatures fs) = withFeatures fs (execCas size acq rs rel rn rt s) := by
  have stored (p : Prop) [Decidable p] :
      (if p then (s.withFeatures fs).storeFrom (s.base rn) (accessBytes size) rt else s.withFeatures fs) =
        (if p then s.storeFrom (s.base rn) (accessBytes size) rt else s).withFeatures fs := by
    split <;> rfl
  exact checkAtomic (next ((congrArg (State.wrRz · rs _) (stored _)).trans (wrRz ..)))

/-- No instruction but HLT reads the feature set (R53, D37), by the shared operation its meaning is made of. -/
theorem exec (hlt : ∀ imm16, i ≠ .hlt imm16) :
    Machine.exec i (s.withFeatures fs) = withFeatures fs (Machine.exec i s) := by
  cases i
  case adc | sbc | csel | csinc | csinv | csneg | adr | adrp | mrsNzcv | mrsFpcr => exact next (wrRz ..)
  case rbit | rev16 | revW | rev32 | revX | clz | cls => exact next (wrRz ..)
  case udiv | sdiv | smulh | umulh | lslv | lsrv | asrv | rorv => exact next (wrRz ..)
  case crc32b | crc32h | crc32w | crc32x | crc32cb | crc32ch | crc32cw | crc32cx => exact next (wrRz ..)
  case madd | msub | smaddl | smsubl | umaddl | umsubl => exact next (wrRz ..)
  case addShiftedRegister | subShiftedRegister | andShiftedRegister | bicShiftedRegister | orrShiftedRegister
      | ornShiftedRegister | eorShiftedRegister | eonShiftedRegister | movn | movz | movk | sbfm | bfm | ubfm | extr =>
    exact whenWellFormed (next (wrRz ..))
  case addImmediate | subImmediate => exact next (wrRsp ..)
  case addExtendedRegister | subExtendedRegister => exact whenWellFormed (next (wrRsp ..))
  case andImmediate | orrImmediate | eorImmediate => exact logicalImmediate fun _ => next (wrRsp ..)
  case addsImmediate | subsImmediate | adcs | sbcs => exact next (wrRzFlags ..)
  case addsShiftedRegister | subsShiftedRegister | addsExtendedRegister | subsExtendedRegister =>
    exact whenWellFormed (next (wrRzFlags ..))
  case andsShiftedRegister | bicsShiftedRegister => exact whenWellFormed (next (wrRzLogicalFlags ..))
  case andsImmediate => exact logicalImmediate fun _ => next (wrRzLogicalFlags ..)
  case ccmnRegister | ccmpRegister | ccmnImmediate | ccmpImmediate | msrNzcv => exact next rfl
  case b | ret => exact next rfl
  case bl => exact next (congrArg (State.branchTo · _) link)
  case bCond | cbz | cbnz | tbz | tbnz => exact next (branchIf ..)
  case br => exact next rfl
  case blr => exact next (congrArg (fun u => (State.branchTo u _).setBTypeNext _) link)
  case msrFpcr => exact next rfl
  case mrsRndr => exact next (rndrDraw ..)
  case mrsRndrrs => exact next (rndrDraw ..)
  case nop | esb | csdb | bti | btiC | btiJ | btiJc | dsb | dmb | isb => exact next rfl
  case hint => exact hint _
  case clrex => exact next rfl
  case sys => exact ite rfl (next rfl)
  case hlt => exact absurd rfl (hlt _)
  case udf => exact rfl
  case ldrbUnsignedOffset | ldurb | ldrhUnsignedOffset | ldurh | ldrWUnsignedOffset | ldurW | ldrXUnsignedOffset
      | ldurX | ldrsbXUnsignedOffset | ldursbX | ldrsbWUnsignedOffset | ldursbW | ldrshXUnsignedOffset | ldurshX
      | ldrshWUnsignedOffset | ldurshW | ldrswUnsignedOffset | ldursw => exact load ..
  case ldrbRegisterOffset | ldrhRegisterOffset | ldrWRegisterOffset | ldrXRegisterOffset | ldrsbXRegisterOffset
      | ldrsbWRegisterOffset | ldrshXRegisterOffset | ldrshWRegisterOffset | ldrswRegisterOffset =>
    exact whenWellFormed (load ..)
  case ldrbPostIndex | ldrbPreIndex | ldrhPostIndex | ldrhPreIndex | ldrWPostIndex | ldrWPreIndex | ldrXPostIndex
      | ldrXPreIndex | ldrsbXPostIndex | ldrsbXPreIndex | ldrsbWPostIndex | ldrsbWPreIndex | ldrshXPostIndex
      | ldrshXPreIndex | ldrshWPostIndex | ldrshWPreIndex | ldrswPostIndex | ldrswPreIndex => exact loadIndexed ..
  case ldpWOffset | ldpXOffset => exact loadPair ..
  case ldpWPostIndex | ldpWPreIndex | ldpXPostIndex | ldpXPreIndex => exact loadPairIndexed ..
  case ldrWLiteral | ldrXLiteral | ldrswLiteral => exact loadLiteral ..
  case ldxr | ldaxr => exact loadExclusive ..
  case ldar | ldapr => exact loadAcquire ..
  case strbUnsignedOffset | sturb | strhUnsignedOffset | sturh | strWUnsignedOffset | sturW | strXUnsignedOffset
      | sturX => exact storeAt ..
  case strbRegisterOffset | strhRegisterOffset | strWRegisterOffset | strXRegisterOffset =>
    exact whenWellFormed (storeAt ..)
  case strbPostIndex | strbPreIndex | strhPostIndex | strhPreIndex | strWPostIndex | strWPreIndex | strXPostIndex
      | strXPreIndex => exact storeIndexed ..
  case stpWOffset | stpXOffset => exact storePair ..
  case stpWPostIndex | stpWPreIndex | stpXPostIndex | stpXPreIndex => exact storePairIndexed ..
  case stxr | stlxr => exact storeExclusive ..
  case stlr => exact storeRelease ..
  case cas _ acq _ rel _ _ => exact compareAndSwap (acq := acq) (rel := rel) ..
  case swp | ldadd | ldclr | ldeor | ldset | ldsmax | ldsmin | ldumax | ldumin => 
    exact checkAtomic (next (wrRz (s := s.store _ _ _) ..))

end Features

/-! ## The host's snapshots -/

section Snapshots

variable {m : Simulator} {f : Fault} {r : Refusal}

/-- What the host does after an instruction other than HLT leaves machine and snapshots alone. -/
theorem Simulator.after_not_hlt (hlt : ¬∃ imm16, i = .hlt imm16) :
    (m.after i t).machine = t ∧ (m.after i t).snapshots = m.snapshots := by
  rw [Simulator.after_other fun imm16 e => hlt ⟨imm16, e⟩]
  exact ⟨rfl, rfl⟩

theorem Simulator.step_fault (h : Machine.step m.machine = .fault f) : Simulator.step m = .fault f := by
  simp [Simulator.step, h]

theorem Simulator.step_refused (h : Machine.step m.machine = .refused r) : Simulator.step m = .refused r := by
  simp [Simulator.step, h]

end Snapshots

/-! ## Obligations -/

/-- Settles O57: the updates each instruction is made of, that none but HLT reads the feature set, and what the
simulator adds to a step of its machine. -/
theorem writesOnlyWhatIsListed : Obligations.WritesOnlyWhatIsListed := by
  unfold Obligations.WritesOnlyWhatIsListed
  refine ⟨fun i s t ht => ?writes, fun i s features hlt => ?features, fun s saved => ⟨fun i => ?exec, ?step⟩⟩
  case writes =>
    have effect : s.Effect i t := (ht ▸ exec_answers i s : Answers i s (.next t)).effect
    have kept := effect.kept
    exact ⟨effect.nzcv, fun hi => ⟨State.byteAt_congr (effect.mem hi), effect.mem hi⟩,
      fun hi hlt => effect.fpcr hlt hi, fun hi hi' hlt => effect.rndr hlt hi hi', fun hlt => effect.units hlt,
      kept.platform, kept.status, kept.btype, kept.movprfx⟩
  case features =>
    refine (Features.exec hlt).trans ?_
    cases exec i s <;> rfl
  case exec =>
    cases h : exec i s with
    | next t => exact ⟨_, Simulator.exec_next h, Simulator.after_machine, Simulator.after_not_hlt⟩
    | fault => exact Simulator.exec_fault h
    | refused => exact Simulator.exec_refused h
  case step =>
    cases h : step s with
    | next t =>
      obtain ⟨i, hi, e⟩ | e := Simulator.step_next (m := { machine := s, snapshots := saved }) h
      · exact ⟨_, e, Simulator.after_machine, fun hlt =>
          Simulator.after_not_hlt fun ⟨imm16, hi'⟩ => hlt ⟨imm16, hi' ▸ hi⟩⟩
      · exact ⟨_, e, rfl, fun _ => ⟨rfl, rfl⟩⟩
    | fault => exact Simulator.step_fault h
    | refused => exact Simulator.step_refused h

end Sys2Proof.Machine
end

section
/-! PROOFS. Host traps (R392): HLT by its service, the feature lists in parameter blocks, and what a call of printf
keeps. -/

namespace Sys2Proof.Machine

variable {s t u : State} {imm16 : BitVec 16} {service : HostService} {words : Nat}

/-! ## HLT -/

theorem State.hostTrap_eq (hs : s.serviceOf imm16 = some service) :
    s.hostTrap imm16 = s.hostEffect imm16 service := by
  rw [State.hostTrap, hs]; rfl

/-- A service that answers is continued behind its parameter block. -/
theorem exec_hlt_next (hs : s.serviceOf imm16 = some service) (he : s.hostEffect imm16 service = some (t, words)) :
    exec (.hlt imm16) s = .next (t.branchTo (s.behindBlock words)) := by
  change execHlt imm16 s = _
  rw [execHlt, State.hostTrap_eq hs, he]

/-- Where the host does not answer, HLT faults (R462). -/
theorem exec_hlt_abort (h : s.hostTrap imm16 = none) : exec (.hlt imm16) s = .fault (.hostTrapAbort s.pc imm16) := by
  change execHlt imm16 s = _
  rw [execHlt, h]; rfl

/-- The simulator answers an instruction with what the host leaves after it. -/
theorem Simulator.exec_eq_next {m m' : Simulator} {i : Instr} (run : Machine.exec i m.machine = .next t)
    (after : m.after i t = m') : Simulator.exec i m = .next m' :=
  after ▸ Simulator.exec_next run

/-! ## Feature lists -/

section Lists

variable {l : FeatureListLayout} {addr : Word} {limit : Nat} {codes : List Nat}

/-- Entry `k` of a feature list at `addr`. -/
def State.entryAt (s : State) (l : FeatureListLayout) (addr : Word) (k : Nat) : Nat :=
  (s.memRead (addr + BitVec.ofNat 64 (l.entryBytes * k)) l.entryBytes).toNat

/-- Memory at `addr` holds the feature list `codes` and its sentinel within `limit` entries: `State.HoldsList` for
any address and limit, so that the host's reading can be followed entry by entry. -/
structure State.ListAt (s : State) (l : FeatureListLayout) (addr : Word) (limit : Nat) (codes : List Nat) : Prop where
  limit : codes.length < limit
  entries : ∀ k, (h : k < codes.length) → codes[k] = s.entryAt l addr k ∧ codes[k] ≠ l.none
  sentinel : s.entryAt l addr codes.length = l.none
  valid : ∀ k ≤ codes.length, s.memValid (addr + BitVec.ofNat 64 (l.entryBytes * k)) l.entryBytes = true

theorem entryAddress_zero : addr + BitVec.ofNat 64 (l.entryBytes * 0) = addr := by simp

theorem entryAddress_succ (k : Nat) : addr + BitVec.ofNat 64 (l.entryBytes * (k + 1)) =
    addr + BitVec.ofNat 64 l.entryBytes + BitVec.ofNat 64 (l.entryBytes * k) := by
  rw [Nat.mul_succ, Nat.add_comm, BitVec.ofNat_add, BitVec.add_assoc]

theorem State.entryAt_zero : s.entryAt l addr 0 = (s.memRead addr l.entryBytes).toNat := by
  rw [State.entryAt, entryAddress_zero]

theorem State.entryAt_succ (k : Nat) :
    s.entryAt l addr (k + 1) = s.entryAt l (addr + BitVec.ofNat 64 l.entryBytes) k := by
  rw [State.entryAt, entryAddress_succ, State.entryAt]

theorem State.listAt_nil : s.ListAt l addr (limit + 1) [] ↔
    s.memValid addr l.entryBytes = true ∧ (s.memRead addr l.entryBytes).toNat = l.none := by
  constructor
  · rintro ⟨-, -, sentinel, valid⟩
    exact ⟨entryAddress_zero (addr := addr) ▸ valid 0 (Nat.le_refl 0), State.entryAt_zero ▸ sentinel⟩
  · rintro ⟨valid, sentinel⟩
    refine ⟨Nat.succ_pos limit, fun k hk => absurd hk (Nat.not_lt_zero k), State.entryAt_zero.trans sentinel,
      fun k hk => ?_⟩
    obtain rfl := Nat.le_zero.mp hk
    rw [entryAddress_zero]; exact valid

theorem State.listAt_cons {code : Nat} : s.ListAt l addr (limit + 1) (code :: codes) ↔
    s.memValid addr l.entryBytes = true ∧ code = (s.memRead addr l.entryBytes).toNat ∧ code ≠ l.none ∧
      s.ListAt l (addr + BitVec.ofNat 64 l.entryBytes) limit codes := by
  constructor
  · rintro ⟨within, entries, sentinel, valid⟩
    obtain ⟨first, ne⟩ := entries 0 (Nat.succ_pos _)
    refine ⟨entryAddress_zero (addr := addr) ▸ valid 0 (Nat.zero_le _), State.entryAt_zero ▸ first, ne,
      Nat.lt_of_succ_lt_succ within, fun k hk => ?_, State.entryAt_succ (s := s) _ ▸ sentinel, fun k hk => ?_⟩
    · exact State.entryAt_succ (s := s) k ▸ entries (k + 1) (Nat.succ_lt_succ hk)
    · exact entryAddress_succ (addr := addr) k ▸ valid (k + 1) (Nat.succ_le_succ hk)
  · rintro ⟨valid0, first, ne, within, entries, sentinel, valid⟩
    refine ⟨Nat.succ_lt_succ within, fun k hk => ?_, (State.entryAt_succ _).trans sentinel, fun k hk => ?_⟩
    · cases k with
      | zero => exact ⟨first.trans State.entryAt_zero.symm, ne⟩
      | succ k => rw [State.entryAt_succ]; exact entries k (Nat.lt_of_succ_lt_succ hk)
    · cases k with
      | zero => rw [entryAddress_zero]; exact valid0
      | succ k => rw [entryAddress_succ]; exact valid k (Nat.le_of_succ_le_succ hk)

/-- The host reads exactly the lists that memory holds. -/
theorem State.featureCodes_eq_some : s.featureCodes l addr limit = some codes ↔ s.ListAt l addr limit codes := by
  induction limit generalizing addr codes with
  | zero => exact ⟨fun h => (Option.some_ne_none _ h.symm).elim, fun h => absurd h.limit (Nat.not_lt_zero _)⟩
  | succ limit ih =>
    rw [State.featureCodes]
    cases codes with
    | nil =>
      rw [State.listAt_nil]
      by_cases hv : s.memValid addr l.entryBytes = true <;>
        by_cases hn : (s.memRead addr l.entryBytes).toNat = l.none <;> simp [hv, hn]
    | cons code codes =>
      rw [State.listAt_cons, ← ih]
      by_cases hv : s.memValid addr l.entryBytes = true
      · by_cases hn : (s.memRead addr l.entryBytes).toNat = l.none
        · simp only [hv, hn, if_true, true_and, Option.some.injEq, reduceCtorEq, false_iff]
          exact fun ⟨h, ne, _⟩ => ne h
        · simp only [hv, hn, if_true, if_false, true_and, Option.map_eq_some_iff, List.cons.injEq]
          constructor
          · rintro ⟨rest, h, rfl, rfl⟩
            exact ⟨rfl, hn, h⟩
          · rintro ⟨rfl, -, h⟩
            exact ⟨codes, h, rfl, rfl⟩
      · simp [hv]

theorem State.holdsList_iff (hl : s.platform.featureList = l) :
    s.HoldsList codes ↔ s.ListAt l (s.pc + BitVec.ofNat 64 l.offset) l.limit codes := by
  subst hl
  have address (k : Nat) : s.pc + BitVec.ofNat 64 s.platform.featureList.offset +
      BitVec.ofNat 64 (s.platform.featureList.entryBytes * k) =
      s.pc + BitVec.ofNat 64 (s.platform.featureList.offset + s.platform.featureList.entryBytes * k) := by
    rw [BitVec.ofNat_add, BitVec.add_assoc]
  have entry (k : Nat) : s.entryAt s.platform.featureList
      (s.pc + BitVec.ofNat 64 s.platform.featureList.offset) k = s.listEntry k := by
    rw [State.entryAt, address, State.listEntry]
  constructor
  · rintro ⟨within, entries, sentinel, valid⟩
    exact ⟨within, by simpa only [entry] using entries, by simpa only [entry] using sentinel,
      by simpa only [address] using valid⟩
  · rintro ⟨within, entries, sentinel, valid⟩
    exact ⟨within, by simpa only [entry] using entries, by simpa only [entry] using sentinel,
      by simpa only [address] using valid⟩

/-- The words of a block are its bytes rounded up: the list and its sentinel fit, and less than a word is left. -/
theorem listWords_bounds (n : Nat) (h : 4 ≤ l.offset) :
    l.offset + l.entryBytes * (n + 1) ≤ 4 + 4 * listWords l n ∧
      4 * listWords l n < l.offset + l.entryBytes * (n + 1) := by
  unfold listWords
  rw [Nat.mul_comm (n + 1)]
  omega

/-- A service that reads a feature list: what it does with one, and that it aborts without (R392). -/
theorem exec_hlt_withFeatureList {f : List Feature → List Feature} (hs : s.serviceOf imm16 = some service)
    (he : s.hostEffect imm16 service = s.withFeatureList f) :
    (∀ codes, s.HoldsList codes → exec (.hlt imm16) s =
      .next (State.branchTo { s with features := f (codes.map (featureOf s.platform.featureList)) }
        (s.behindBlock (listWords s.platform.featureList codes.length)))) ∧
    ((∀ codes, ¬s.HoldsList codes) → exec (.hlt imm16) s = .fault (.hostTrapAbort s.pc imm16)) := by
  have holds (codes : List Nat) := (State.holdsList_iff (codes := codes) (s := s) rfl).trans
    State.featureCodes_eq_some.symm
  constructor
  · intro codes h
    have read := (holds codes).mp h
    exact exec_hlt_next hs (he.trans (by rw [State.withFeatureList, State.featureList, read]; rfl))
  · intro h
    have read := Option.eq_none_iff_forall_ne_some.mpr fun codes e => h codes ((holds codes).mpr e)
    have effect : s.hostEffect imm16 service = none :=
      he.trans (by rw [State.withFeatureList, State.featureList, read]; rfl)
    exact exec_hlt_abort ((State.hostTrap_eq hs).trans effect)

theorem mem_addFeatures {fs gs : List Feature} {f : Feature} : f ∈ addFeatures fs gs ↔ f ∈ fs ∨ f ∈ gs := by
  unfold addFeatures
  induction gs generalizing fs with
  | nil => simp
  | cons g gs ih =>
    rw [List.foldl_cons, ih]
    by_cases h : g ∈ fs
    · simp only [List.contains_iff_mem.mpr h, if_true, List.mem_cons]
      constructor
      · exact Or.imp_right Or.inr
      · rintro (hf | rfl | hg)
        · exact .inl hf
        · exact .inl h
        · exact .inr hg
    · simp [h, or_assoc]

end Lists

/-! ## What a call of printf keeps -/

/-- SP, memory, the feature set, FPCR, X19 to X29 and the low halves of V8 to V15 (R392, log 12). -/
structure State.CallKeeps (s t : State) : Prop where
  sp : t.sp = s.sp
  mem : t.mem = s.mem
  features : t.features = s.features
  fpcr : t.fpcr = s.fpcr
  platform : t.platform = s.platform
  x : ∀ j, 19 ≤ j → j < 30 → t.xReg j = s.xReg j
  z : s.platform.wf = true → ∀ i : RegNum, 8 ≤ i.toNat → i.toNat < 16 →
    (t.zReg i).setWidth 64 = (s.zReg i).setWidth 64

/-- A vector register holds 64 bits at least (R7). -/
theorem State.setWidth_and_zMask (h : s.platform.wf = true) (v : BitVec 2048) :
    (v &&& s.zMask).setWidth 64 = v.setWidth 64 := by
  simp only [Platform.wf, Bool.and_eq_true, decide_eq_true_eq] at h
  obtain ⟨⟨⟨⟨vl, -⟩, -⟩, -⟩, -⟩ := h
  apply BitVec.eq_of_getLsbD_eq
  intro k hk
  simp [State.zMask, hk, show k < s.platform.vl by omega, show k < 2048 by omega]

namespace State.CallKeeps

theorem refl (s : State) : s.CallKeeps s := ⟨rfl, rfl, rfl, rfl, rfl, fun _ _ _ => rfl, fun _ _ _ _ => rfl⟩

theorem trans (h : s.CallKeeps t) (k : t.CallKeeps u) : s.CallKeeps u where
  sp := k.sp.trans h.sp
  mem := k.mem.trans h.mem
  features := k.features.trans h.features
  fpcr := k.fpcr.trans h.fpcr
  platform := k.platform.trans h.platform
  x j lo hi := (k.x j lo hi).trans (h.x j lo hi)
  z wf i lo hi := (k.z (h.platform ▸ wf) i lo hi).trans (h.z wf i lo hi)

theorem foldl {α : Type} {l : List α} {f : State → α → State} (hf : ∀ t : State, ∀ a ∈ l, t.CallKeeps (f t a))
    (s : State) : s.CallKeeps (l.foldl f s) :=
  List.foldlRecOn l f (refl s) fun t h a ha => h.trans (hf t a ha)

theorem freeX {r : RegNum} (hr : r.toNat < 19 ∨ r.toNat = 30) (s : State) : s.CallKeeps (s.freeX r) where
  sp := s.wrRz_sp r _
  mem := s.wrRz_mem r _
  features := s.wrRz_features r _
  fpcr := s.wrRz_fpcr r _
  platform := s.wrRz_platform r _
  x j lo hi := (s.xReg_wrRz r _ j).trans (if_neg (by omega))
  z _ i _ _ := congrArg (BitVec.setWidth 64) (State.zReg_congr (s.wrRz_z r _) i)

theorem freeZ {r : RegNum} (hr : r.toNat < 8 ∨ 16 ≤ r.toNat) (s : State) : s.CallKeeps (s.freeZ r) where
  sp := rfl
  mem := rfl
  features := rfl
  fpcr := rfl
  platform := rfl
  x _ _ _ := rfl
  z _ i lo hi := congrArg (BitVec.setWidth 64) ((s.zReg_wrZ r i _).trans (if_neg (by rintro rfl; omega)))

theorem freeTop (r : RegNum) (s : State) : s.CallKeeps (s.freeTop r) where
  sp := rfl
  mem := rfl
  features := rfl
  fpcr := rfl
  platform := rfl
  x _ _ _ := rfl
  z wf i _ _ := by
    refine (congrArg (BitVec.setWidth 64) (s.zReg_wrZ r i _)).trans ?_
    split
    · next e =>
      subst e
      rw [State.setWidth_and_zMask wf]
      apply BitVec.eq_of_getLsbD_eq
      intro k hk
      have hk' : k < 2048 := by omega
      simp only [BitVec.getLsbD_setWidth, BitVec.getLsbD_or, BitVec.getLsbD_and, BitVec.getLsbD_not,
        BitVec.getLsbD_allOnes, hk, hk', decide_true, Bool.and_true, Bool.true_and, Bool.not_true, Bool.and_false,
        Bool.or_false]
    · rfl

theorem freeP (r : BitVec 4) (s : State) : s.CallKeeps (s.freeP r) :=
  ⟨rfl, rfl, rfl, rfl, rfl, fun _ _ _ => rfl, fun _ _ _ _ => rfl⟩

theorem freeNzcv (s : State) : s.CallKeeps s.freeNzcv :=
  ⟨rfl, rfl, rfl, rfl, rfl, fun _ _ _ => rfl, fun _ _ _ _ => rfl⟩

theorem afterPrintf (s : State) : s.CallKeeps s.afterPrintf := by
  have x : ∀ r ∈ callerSavedX, r.toNat < 19 ∨ r.toNat = 30 := by decide
  have z : ∀ r ∈ callerSavedV, r.toNat < 8 ∨ 16 ≤ r.toNat := by decide
  exact (foldl (fun t r hr => freeX (x r hr) t) s).trans <| (foldl (fun t r hr => freeZ (z r hr) t) _).trans <|
    (foldl (fun t r _ => freeTop r t) _).trans <| (foldl (fun t r _ => freeP r t) _).trans (freeNzcv _)

end State.CallKeeps

/-! ## Obligation -/

/-- Settles O43, service by service. -/
theorem hostTraps : Obligations.HostTraps := by
  unfold Obligations.HostTraps
  intro s imm16 service l abort behind next hosts configures
  have configures_of (svc : HostService) (f : List Feature → List Feature) {member : List Feature → Feature → Prop}
      (he : s.hostEffect imm16 svc = s.withFeatureList f) (hf : ∀ fs g, g ∈ f fs ↔ member fs g) :
      configures svc member := by
    intro hs
    obtain ⟨reads, aborts⟩ := exec_hlt_withFeatureList hs he
    exact ⟨fun codes h => ⟨_, _, reads codes h, hf _, fun offset => listWords_bounds codes.length offset⟩, aborts⟩
  refine ⟨?none, ?trace, ?printf, ?runtimeCall, ?set, ?enable, ?disable, ?save, ?restore, ?unnamed⟩
  case none =>
    rintro (hs | hs)
    · exact exec_hlt_abort (congrArg (Option.bind · _) hs)
    · exact exec_hlt_abort (State.hostTrap_eq hs)
  case trace =>
    rintro w (hs | hs)
    · exact exec_hlt_next hs rfl
    · exact exec_hlt_next hs rfl
  case printf =>
    intro w hs
    have keeps := State.CallKeeps.afterPrintf s
    exact ⟨s.afterPrintf, exec_hlt_next hs rfl, keeps.sp, keeps.mem, keeps.features, keeps.fpcr, keeps.x, keeps.z⟩
  case runtimeCall =>
    exact fun w hs => ⟨s.afterRuntimeCall, exec_hlt_next hs rfl, Memory.wf_ofCells _⟩
  case set =>
    have listed (fs : List Feature) (g : Feature) : g ∈ addFeatures [] fs ↔ g ∈ fs := by simp [mem_addFeatures]
    exact configures_of .setFeatures _ rfl listed
  case enable => exact configures_of .enableFeatures _ rfl fun _ _ => mem_addFeatures
  case disable =>
    have kept (fs : List Feature) (g : Feature) :
        g ∈ s.features.filter (fun f => !fs.contains f) ↔ g ∈ s.features ∧ g ∉ fs := by simp
    exact configures_of .disableFeatures _ rfl kept
  case save =>
    intro w hs
    have run : next s w := exec_hlt_next hs rfl
    exact ⟨run, fun saved => Simulator.exec_eq_next run (Simulator.after_save (m := ⟨s, saved⟩) hs)⟩
  case restore =>
    intro w hs
    have run : next s.restoreFeatures w := exec_hlt_next hs rfl
    exact ⟨Config.freeFeatures s.freeCount, run,
      fun fs rest => Simulator.exec_eq_next run (Simulator.after_restore (m := ⟨s, fs :: rest⟩) hs rfl),
      Simulator.exec_eq_next run (Simulator.after_restore_none (m := ⟨s, []⟩) hs rfl)⟩
  case unnamed =>
    intro hs
    cases h : openHostTrap imm16 s with
    | none => exact exec_hlt_abort ((State.hostTrap_eq hs).trans (congrArg (Option.map _) h))
    | some answer =>
      obtain ⟨t, w⟩ := answer
      exact ⟨s.takeHost t, exec_hlt_next hs (congrArg (Option.map _) h), rfl, rfl, rfl, rfl, rfl, Memory.wf_ofCells _,
        rfl, rfl⟩

end Sys2Proof.Machine
end

section
/-! PROOFS. Reads and writes of memory (R61 to R63), and the instructions without an effect of their own (R80,
R82, R385 to R389). -/

namespace Sys2Proof.Machine

variable {s : State}

/-! ## Memory -/

/-- An access that passes its check ends inside the address space (R73). -/
theorem State.memValid_le {addr : Word} {n : Nat} (h : s.memValid addr n = true) : addr.toNat + n ≤ 2 ^ 64 := by
  simp only [State.memValid, Bool.and_eq_true, decide_eq_true_eq] at h
  exact h.1

/-- Byte `k` of a read is the byte at its address (R61, R62). -/
theorem Memory.extractLsb'_read (m : List Host.Cell) (addr : Word) {n k : Nat} (hk : k < n) :
    (Memory.read m addr n).extractLsb' (8 * k) 8 = Memory.get m (byteAddress addr k) := by
  apply BitVec.eq_of_getLsbD_eq
  intro i hi
  have inside : 8 * k + i < 8 * n := by omega
  have byte : (8 * k + i) / 8 = k := by omega
  have bit : (8 * k + i) % 8 = i := by omega
  simp only [BitVec.getLsbD_extractLsb', getLsbD_memory_read, hi, inside, byte, bit, decide_true, Bool.true_and]

/-! ## Hints -/

/-- Only the hints of pointer authentication have a name (R385). -/
theorem pacHint?_eq_none {imm7 : BitVec 7}
    (h : imm7.toNat ∉ [7, 8, 10, 12, 14, 24, 25, 26, 27, 28, 29, 30, 31]) : pacHint? imm7 = none := by
  unfold pacHint?
  split <;> simp_all

/-! ## Obligations -/

/-- Settles O56: the bytes of a valid access are consecutive, so a read gathers what a write scattered. -/
theorem memoryReadAfterWrite : Obligations.MemoryReadAfterWrite := by
  unfold Obligations.MemoryReadAfterWrite
  intro s addr n v hm valid
  have inside : addr.toNat + n ≤ 2 ^ 64 := State.memValid_le valid
  have small : n ≤ 2 ^ 64 := by omega
  have consecutive (k : Nat) (hk : k < n) : byteAddress addr k = addr.toNat + k := byteAddress_eq inside hk
  refine ⟨?readBack, s.stored_memWrite addr n v hm small, ?bytes, consecutive, Memory.wf_write hm addr v n⟩
  case readBack => exact (Memory.read_write hm addr v small).trans (BitVec.setWidth_eq v)
  case bytes =>
    intro k hk
    rw [← consecutive k hk]
    exact Memory.extractLsb'_read s.mem addr hk

/-- Settles O41: each of these instructions answers the state itself, CLREX the state without its monitor. -/
theorem noEffect : Obligations.NoEffect := by
  unfold Obligations.NoEffect
  intro s imm7 crm op1 crn op2 rt
  refine ⟨fun i hi => ?plain, fun h => ?hint, rfl, fun h => ?sys⟩
  case plain =>
    simp only [List.mem_cons, List.not_mem_nil, or_false] at hi
    obtain rfl | rfl | rfl | rfl | rfl | rfl | rfl | rfl | rfl | rfl := hi <;> rfl
  case hint =>
    change execHint imm7 s = .next s
    rw [execHint, pacHint?_eq_none h]
  case sys => exact if_neg (by simp [h])

end Sys2Proof.Machine
end

section
/-! PROOFS. Exclusive, acquire and release accesses (R75 to R83, R363 to R365, R370): what each leaves, and
sequences of them. -/

namespace Sys2Proof.Machine

variable {s t u : State} {i : Instr} {size : AccessSize} {rs rn rt : RegNum}

/-! ## Frames -/

/-- Before or after one register write, a step that writes no register adds nothing to it. -/
theorem State.WroteRz.afterSameRegs {n : Nat} {rd : RegNum} {v : BitVec n} (h : t.WroteRz u rd v) (k : s.SameRegs t) :
    s.WroteRz u rd v :=
  ⟨h.dest, fun j hj => (h.others j hj).trans (k.x j), h.sp.trans k.sp⟩

theorem State.WroteRz.thenSameRegs {n : Nat} {rd : RegNum} {v : BitVec n} (h : s.WroteRz t rd v) (k : t.SameRegs u) :
    s.WroteRz u rd v :=
  ⟨fun ne => (k.x _).trans (h.dest ne), fun j hj => (k.x j).trans (h.others j hj), k.sp.trans h.sp⟩

/-- A base register that is not the one written still holds its address. -/
theorem State.WroteRz.rsp {n : Nat} {rd : RegNum} {v : BitVec n} (h : s.WroteRz t rd v) (ne : rd ≠ rn ∨ rn = 31#5) :
    t.rsp 64 rn = s.rsp 64 rn := by
  by_cases base : rn = 31#5
  · rw [base, State.rsp_31, State.rsp_31, h.sp]
  · have other : rn.toNat ≠ rd.toNat := BitVec.toNat_ne.mp (ne.resolve_right base).symm
    rw [State.rsp_of_ne t base, State.rsp_of_ne s base, h.others _ (.inr other)]

theorem State.SameButMemory.wrRz {n : Nat} {rd : RegNum} {v : BitVec n} (h : s.SameButMemory t) :
    s.SameButMemory (t.wrRz rd v) :=
  ⟨h.pc.trans (t.samePc_wrRz rd v), (t.wrRz_nzcv rd v).trans h.flags, h.units.trans (t.sameUnits_wrRz rd v)⟩

theorem State.sameButMemory_clearLocal (s : State) : s.SameButMemory s.clearLocal :=
  ⟨⟨rfl, rfl, rfl⟩, rfl, ⟨rfl, rfl, rfl, rfl, rfl, rfl, rfl, rfl, rfl, rfl⟩⟩

/-- A store stores its bytes and no other (R63): every access size is far below 2^64. -/
theorem State.stored_store {w : Nat} (s : State) (addr : Word) (size : AccessSize) (v : BitVec w)
    (hm : Memory.wf s.mem = true) : s.Stored (s.store addr (accessBytes size) v) addr (accessBytes size) v :=
  (s.stored_memWrite addr _ v hm (by cases size <;> decide)).congr rfl

/-- A zero-extending load is one register write (R356, R363). -/
theorem State.onlyRz_loadTo (s : State) (addr : Word) (size : AccessSize) (rt : RegNum) :
    s.OnlyRz (s.loadTo addr (accessBytes size) false (accessRegWidth size) rt) rt
      ((s.memRead addr (accessBytes size)).setWidth 64) := by
  obtain ⟨wrote, flags, rest⟩ :=
    s.onlyRz_wrRz rt ((s.memRead addr (accessBytes size)).setWidth (accessRegWidth size))
  exact ⟨wrote.widen (by rw [setWidth_accessRegWidth, BitVec.setWidth_eq]), flags, rest⟩

/-! ## Monitors -/

/-- A monitor covers an access that its interval contains (R75). -/
theorem covers_iff {m : Option Interval} {addr : Word} {n : Nat} :
    covers m addr n = true ↔ ∃ v, m = some v ∧ v.addr ≤ addr.toNat ∧ addr.toNat + n ≤ v.addr + v.size := by
  cases m <;> simp [covers]

/-- Right after a mark both monitors cover the access (R77, R78). -/
theorem State.exclusiveOk_markExclusive (s : State) (addr : Word) (n : Nat) :
    (s.markExclusive addr n).exclusiveOk addr n = true := by
  simp [State.exclusiveOk, covers]

/-- A cleared local monitor covers nothing (R75). -/
theorem State.exclusiveOk_of_cleared {addr : Word} {n : Nat} (h : s.localMonitor = none) :
    s.exclusiveOk addr n = false := by
  simp [State.exclusiveOk, covers, h]

/-! ## Load-exclusives and store-exclusives: with and without acquire or release, the same (R82) -/

theorem exec_loadExclusive (hi : i ∈ [Instr.ldxr size rn rt, .ldaxr size rn rt]) :
    exec i s = s.loadExclusive size rn rt := by
  simp only [List.mem_cons, List.not_mem_nil, or_false] at hi
  obtain rfl | rfl := hi <;> rfl

theorem exec_storeExclusive (hi : i ∈ [Instr.stxr size rs rn rt, .stlxr size rs rn rt]) :
    exec i s = s.storeExclusive (.instr i) size rs rn rt := by
  simp only [List.mem_cons, List.not_mem_nil, or_false] at hi
  obtain rfl | rfl := hi <;> rfl

/-- A load-exclusive that leaves its base register alone lets a store-exclusive of the same access succeed. -/
theorem exclusiveOk_after_loadExclusive (hi : i ∈ [Instr.ldxr size rn rt, .ldaxr size rn rt])
    (base : rt ≠ rn ∨ rn = 31#5) (h : exec i s = .next t) :
    t.exclusiveOk (t.rsp 64 rn) (accessBytes size) = true := by
  obtain ⟨-, -, -, rfl⟩ := State.loadExclusive_next.mp ((exec_loadExclusive hi).symm.trans h)
  have wrote := (s.onlyRz_loadTo (s.rsp 64 rn) size rt).1.thenSameRegs
    (u := State.markExclusive _ (s.rsp 64 rn) (accessBytes size)) (.of rfl rfl)
  rw [wrote.rsp base]
  exact State.exclusiveOk_markExclusive _ _ _

/-- Both monitors cover the access: it stores, and the status is 0 (R78). -/
theorem exec_storeExclusive_covered (hi : i ∈ [Instr.stxr size rs rn rt, .stlxr size rs rn rt])
    (h : exec i s = .next t) (ok : s.exclusiveOk (s.rsp 64 rn) (accessBytes size) = true) :
    t = (s.store (s.rsp 64 rn) (accessBytes size) (s.rz 64 rt)).wrRz rs 0#32 := by
  obtain ⟨-, -, -, -, rfl⟩ := State.storeExclusive_next.mp ((exec_storeExclusive hi).symm.trans h)
  exact if_pos ok

/-- Not both monitors cover the access: nothing is stored, and the status is 1 (R78). -/
theorem exec_storeExclusive_uncovered (hi : i ∈ [Instr.stxr size rs rn rt, .stlxr size rs rn rt])
    (h : exec i s = .next t) (no : s.exclusiveOk (s.rsp 64 rn) (accessBytes size) = false) :
    t = s.clearLocal.wrRz rs 1#32 := by
  obtain ⟨-, -, -, -, rfl⟩ := State.storeExclusive_next.mp ((exec_storeExclusive hi).symm.trans h)
  exact if_neg (by simp [no])

/-- After the local monitor was cleared a store-exclusive fails, and changes no byte. -/
theorem exec_storeExclusive_of_cleared (hi : i ∈ [Instr.stxr size rs rn rt, .stlxr size rs rn rt]) (hs : rs ≠ 31#5)
    (cleared : s.localMonitor = none) (h : exec i s = .next t) :
    t.xReg rs.toNat = 1#64 ∧ ∀ a, t.byteAt a = s.byteAt a := by
  obtain rfl := exec_storeExclusive_uncovered hi h (State.exclusiveOk_of_cleared cleared)
  exact ⟨(s.clearLocal.wroteRz_wrRz rs 1#32).dest hs, State.byteAt_congr (State.wrRz_mem s.clearLocal rs 1#32)⟩

/-! ## Operations that clear the local monitor (R79, R80) -/

/-- Wherever the result is a next state, its local monitor is clear. -/
def ClearsLocal (k : Result) : Prop := ∀ t, k = .next t → t.localMonitor = none

namespace ClearsLocal

variable {k : Result} {c : Command} {rt2 : RegNum} {addr back : Word} {n : Nat}

theorem whenWellFormed (h : ClearsLocal k) : ClearsLocal (whenWellFormed i s k) :=
  fun t ht => h t (whenWellFormed_next.mp ht).2

theorem storeAt : ClearsLocal (s.storeAt rn rt addr n) := fun t ht => by
  obtain ⟨-, -, rfl⟩ := State.storeAt_next.mp ht
  rfl

theorem storeIndexed : ClearsLocal (s.storeIndexed c rn rt addr back n) := fun t ht => by
  obtain ⟨-, -, -, rfl⟩ := State.storeIndexed_next.mp ht
  exact State.wrRsp_localMonitor _ rn back

theorem storePair : ClearsLocal (s.storePair rn rt rt2 addr n) := fun t ht => by
  obtain ⟨-, -, -, rfl⟩ := State.storePair_next.mp ht
  rfl

theorem storePairIndexed : ClearsLocal (s.storePairIndexed c rn rt rt2 addr back n) := fun t ht => by
  obtain ⟨-, -, -, -, -, rfl⟩ := State.storePairIndexed_next.mp ht
  exact State.wrRsp_localMonitor _ rn back

theorem storeRelease : ClearsLocal (s.storeRelease size rn rt) := fun t ht => by
  obtain ⟨-, -, -, rfl⟩ := State.storeRelease_next.mp ht
  rfl

theorem clrex {crm : BitVec 4} : ClearsLocal (exec (.clrex crm) s) := by
  rintro _ ⟨⟩
  rfl

/-- Every single-register store. -/
theorem single {kind : LdStKind} (stores : kindStores kind = true) (mode : AddrMode) :
    ClearsLocal (exec (singleOf kind rn rt mode) s) := by
  have kinds : kind = .strb ∨ kind = .strh ∨ kind = .strW ∨ kind = .strX := by cases kind <;> simp_all [kindStores]
  cases mode with
  | unsigned | unscaled => obtain rfl | rfl | rfl | rfl := kinds <;> exact storeAt
  | post | pre => obtain rfl | rfl | rfl | rfl := kinds <;> exact storeIndexed
  | register => obtain rfl | rfl | rfl | rfl := kinds <;> exact whenWellFormed storeAt

/-- Every pair store. -/
theorem pair (sf : Bool) (mode : PairMode) : ClearsLocal (exec (pairOf true sf rt2 rn rt mode) s) := by
  cases mode with
  | offset => cases sf <;> exact storePair
  | post | pre => cases sf <;> exact storePairIndexed

end ClearsLocal

/-! ## Obligations -/

/-- Settles O49: a zero-extending load, then a mark of both monitors. -/
theorem loadExclusives : Obligations.LoadExclusives := by
  unfold Obligations.LoadExclusives
  intro s size rn rt addr base line valid i hi
  obtain ⟨wrote, flags, pc, memory, units⟩ := s.onlyRz_loadTo addr size rt
  have run := (exec_loadExclusive hi).trans (State.loadExclusive_next.mpr ⟨base, line, valid, rfl⟩)
  exact ⟨_, run, wrote.thenSameRegs (.of rfl rfl), flags, rfl, rfl, memory.bytes, memory.image,
    ⟨pc.pc, pc.pcModified, pc.btypeNext⟩,
    units.trans ⟨rfl, rfl, rfl, rfl, rfl, rfl, rfl, rfl, rfl, rfl⟩⟩

/-- Settles O50, by whether both monitors cover the access. -/
theorem storeExclusives : Obligations.StoreExclusives := by
  unfold Obligations.StoreExclusives
  intro s size rs rn rt addr covered hm neRt neRn base line valid i hi
  have ok_iff : s.exclusiveOk addr (accessBytes size) = true ↔ covered s.localMonitor ∧ covered s.globalMonitor := by
    rw [State.exclusiveOk, Bool.and_eq_true, covers_iff, covers_iff]
  obtain ⟨t, run⟩ : ∃ t, exec i s = .next t :=
    ⟨_, (exec_storeExclusive hi).trans
      (State.storeExclusive_next.mpr ⟨not_or.mpr ⟨neRt, neRn⟩, base, line, valid, rfl⟩)⟩
  refine ⟨t, run, ?_⟩
  cases ok : s.exclusiveOk addr (accessBytes size) with
  | true =>
    obtain rfl := exec_storeExclusive_covered hi run ok
    have wrote := (State.wroteRz_wrRz (s.store addr (accessBytes size) (s.rz 64 rt)) rs 0#32).afterSameRegs
      (s := s) (.of rfl rfl)
    have stored := (s.stored_store addr size (s.rz 64 rt) hm).congr (State.wrRz_mem _ rs 0#32)
    exact ⟨fun _ => ⟨stored, wrote⟩, fun no => absurd (ok_iff.mp ok) no, State.wrRz_localMonitor _ rs _,
      State.wrRz_globalMonitor _ rs _, (s.sameButMemory_store addr _ _).wrRz⟩
  | false =>
    obtain rfl := exec_storeExclusive_uncovered hi run ok
    have wrote := (s.clearLocal.wroteRz_wrRz rs 1#32).afterSameRegs (s := s) (.of rfl rfl)
    have bytes := State.byteAt_congr (State.wrRz_mem s.clearLocal rs 1#32)
    have no : ¬(covered s.localMonitor ∧ covered s.globalMonitor) := by simp [← ok_iff, ok]
    exact ⟨fun yes => absurd yes no, fun _ => ⟨bytes, wrote⟩, State.wrRz_localMonitor _ rs _,
      State.wrRz_globalMonitor _ rs _, s.sameButMemory_clearLocal.wrRz⟩

/-- Settles O51: after the mark the store-exclusive finds both monitors, and clears the local one; so does
CLREX and every store, and once it is cleared no store-exclusive succeeds. -/
theorem exclusiveSequence : Obligations.ExclusiveSequence := by
  unfold Obligations.ExclusiveSequence
  intro s t u v size rs rn rt rt2 crm hs _ _ base load hload ht store hstore failsAfter
  have fails {i : Instr} (clears : ClearsLocal (exec i t)) : failsAfter i := fun hu hv =>
    (exec_storeExclusive_of_cleared hstore hs (clears u hu) hv).1
  refine ⟨fun hu => ?_, fails .clrex, fun _ mode _ _ stores => fails (.single stores mode),
    fun sf mode _ _ _ => fails (.pair sf mode), fun _ _ _ => fails .storeRelease⟩
  obtain rfl := exec_storeExclusive_covered hstore hu (exclusiveOk_after_loadExclusive hload base ht)
  exact ⟨(State.wroteRz_wrRz _ rs 0#32).dest hs, fun again hagain hv =>
    exec_storeExclusive_of_cleared hagain hs (State.wrRz_localMonitor _ rs _) hv⟩

/-- Settles O52: the loads are one register write, STLR is a store (R82). -/
theorem acquireRelease : Obligations.AcquireRelease := by
  unfold Obligations.AcquireRelease
  intro s size rn rt addr hm base line valid
  refine ⟨fun i hi => ⟨_, ?load, s.onlyRz_loadTo addr size rt⟩, ⟨_, ?store, s.stored_store addr size _ hm, rfl, rfl,
    .of rfl rfl, s.sameButMemory_store addr _ _⟩⟩
  case load =>
    have run := (State.loadAcquire_next (rt := rt)).mpr ⟨base, line, valid, rfl⟩
    simp only [List.mem_cons, List.not_mem_nil, or_false] at hi
    obtain rfl | rfl := hi <;> exact run
  case store => exact State.storeRelease_next.mpr ⟨base, line, valid, rfl⟩

end Sys2Proof.Machine
end

section
/-! PROOFS. The round trip between words and instructions (R90 to R118, R372): through the format, whose fields a
word holds and from whose opcode fields an instruction is read. -/

namespace Sys2Proof.Laws

/-- A word decodes to an instruction when its format selects the instruction and it is well formed. -/
theorem decode_eq_instr {w : BitVec 32} {i : Instr} : decode w = .instr i ↔
    ∃ f, Format.ofWord w = some f ∧ f.toInstr? = some i ∧ i.wellFormed = true := by
  unfold decode decodeWord?
  cases Format.ofWord w with
  | none => simp
  | some f =>
    cases selected : f.toInstr? with
    | none => simp [selected]
    | some j =>
      cases wf : j.wellFormed <;> simp [selected, wf] <;> (rintro rfl; exact wf)

/-! ## From an instruction to its word and back -/

namespace RoundTrip

/-- The format of a well-formed instruction selects the instruction again, whichever it is. -/
theorem toInstr?_toFormat : ∀ i : Instr, Statement i
  | .addImmediate .. => addImmediate _ _ _ _ _ | .addsImmediate .. => addsImmediate _ _ _ _ _
  | .subImmediate .. => subImmediate _ _ _ _ _ | .subsImmediate .. => subsImmediate _ _ _ _ _
  | .addShiftedRegister .. => addShiftedRegister _ _ _ _ _ _
  | .addsShiftedRegister .. => addsShiftedRegister _ _ _ _ _ _
  | .subShiftedRegister .. => subShiftedRegister _ _ _ _ _ _
  | .subsShiftedRegister .. => subsShiftedRegister _ _ _ _ _ _
  | .addExtendedRegister .. => addExtendedRegister _ _ _ _ _ _
  | .addsExtendedRegister .. => addsExtendedRegister _ _ _ _ _ _
  | .subExtendedRegister .. => subExtendedRegister _ _ _ _ _ _
  | .subsExtendedRegister .. => subsExtendedRegister _ _ _ _ _ _ | .adc .. => adc _ _ _ _
  | .adcs .. => adcs _ _ _ _ | .sbc .. => sbc _ _ _ _ | .sbcs .. => sbcs _ _ _ _
  | .andShiftedRegister .. => andShiftedRegister _ _ _ _ _ _
  | .bicShiftedRegister .. => bicShiftedRegister _ _ _ _ _ _
  | .orrShiftedRegister .. => orrShiftedRegister _ _ _ _ _ _
  | .ornShiftedRegister .. => ornShiftedRegister _ _ _ _ _ _
  | .eorShiftedRegister .. => eorShiftedRegister _ _ _ _ _ _
  | .eonShiftedRegister .. => eonShiftedRegister _ _ _ _ _ _
  | .andsShiftedRegister .. => andsShiftedRegister _ _ _ _ _ _
  | .bicsShiftedRegister .. => bicsShiftedRegister _ _ _ _ _ _ | .andImmediate .. => andImmediate _ _ _ _ _ _
  | .orrImmediate .. => orrImmediate _ _ _ _ _ _ | .eorImmediate .. => eorImmediate _ _ _ _ _ _
  | .andsImmediate .. => andsImmediate _ _ _ _ _ _ | .movn .. => movn _ _ _ _ | .movz .. => movz _ _ _ _
  | .movk .. => movk _ _ _ _ | .ccmnRegister .. => ccmnRegister _ _ _ _ _
  | .ccmpRegister .. => ccmpRegister _ _ _ _ _ | .ccmnImmediate .. => ccmnImmediate _ _ _ _ _
  | .ccmpImmediate .. => ccmpImmediate _ _ _ _ _ | .csel .. => csel _ _ _ _ _ | .csinc .. => csinc _ _ _ _ _
  | .csinv .. => csinv _ _ _ _ _ | .csneg .. => csneg _ _ _ _ _ | .sbfm .. => sbfm _ _ _ _ _ _
  | .bfm .. => bfm _ _ _ _ _ _ | .ubfm .. => ubfm _ _ _ _ _ _ | .extr .. => extr _ _ _ _ _ _
  | .rbit .. => rbit _ _ _ | .rev16 .. => rev16 _ _ _ | .revW .. => revW _ _ | .rev32 .. => rev32 _ _
  | .revX .. => revX _ _ | .clz .. => clz _ _ _ | .cls .. => cls _ _ _ | .udiv .. => udiv _ _ _ _
  | .sdiv .. => sdiv _ _ _ _ | .lslv .. => lslv _ _ _ _ | .lsrv .. => lsrv _ _ _ _ | .asrv .. => asrv _ _ _ _
  | .rorv .. => rorv _ _ _ _ | .crc32b .. => crc32b _ _ _ | .crc32h .. => crc32h _ _ _
  | .crc32w .. => crc32w _ _ _ | .crc32x .. => crc32x _ _ _ | .crc32cb .. => crc32cb _ _ _
  | .crc32ch .. => crc32ch _ _ _ | .crc32cw .. => crc32cw _ _ _ | .crc32cx .. => crc32cx _ _ _
  | .madd .. => madd _ _ _ _ _ | .msub .. => msub _ _ _ _ _ | .smaddl .. => smaddl _ _ _ _
  | .smsubl .. => smsubl _ _ _ _ | .smulh .. => smulh _ _ _ _ | .umaddl .. => umaddl _ _ _ _
  | .umsubl .. => umsubl _ _ _ _ | .umulh .. => umulh _ _ _ _ | .adr .. => adr _ _ _ | .adrp .. => adrp _ _ _
  | .b .. => b _ | .bl .. => bl _ | .bCond .. => bCond _ _ | .cbz .. => cbz _ _ _ | .cbnz .. => cbnz _ _ _
  | .tbz .. => tbz _ _ _ _ | .tbnz .. => tbnz _ _ _ _ | .br .. => br _ | .blr .. => blr _ | .ret .. => ret _
  | .mrsNzcv .. => mrsNzcv _ | .msrNzcv .. => msrNzcv _ | .mrsFpcr .. => mrsFpcr _ | .msrFpcr .. => msrFpcr _
  | .mrsRndr .. => mrsRndr _ | .mrsRndrrs .. => mrsRndrrs _ | .nop => nop | .esb => esb | .csdb => csdb
  | .bti => bti | .btiC => btiC | .btiJ => btiJ | .btiJc => btiJc | .hint .. => hint _ | .clrex .. => clrex _
  | .dsb .. => dsb _ | .dmb .. => dmb _ | .isb .. => isb _ | .sys .. => sys _ _ _ _ _ | .hlt .. => hlt _
  | .udf .. => udf _ | .strbUnsignedOffset .. => strbUnsignedOffset _ _ _ | .sturb .. => sturb _ _ _
  | .strbPostIndex .. => strbPostIndex _ _ _ | .strbPreIndex .. => strbPreIndex _ _ _
  | .strbRegisterOffset .. => strbRegisterOffset _ _ _ _ _
  | .ldrbUnsignedOffset .. => ldrbUnsignedOffset _ _ _ | .ldurb .. => ldurb _ _ _
  | .ldrbPostIndex .. => ldrbPostIndex _ _ _ | .ldrbPreIndex .. => ldrbPreIndex _ _ _
  | .ldrbRegisterOffset .. => ldrbRegisterOffset _ _ _ _ _
  | .strhUnsignedOffset .. => strhUnsignedOffset _ _ _ | .sturh .. => sturh _ _ _
  | .strhPostIndex .. => strhPostIndex _ _ _ | .strhPreIndex .. => strhPreIndex _ _ _
  | .strhRegisterOffset .. => strhRegisterOffset _ _ _ _ _
  | .ldrhUnsignedOffset .. => ldrhUnsignedOffset _ _ _ | .ldurh .. => ldurh _ _ _
  | .ldrhPostIndex .. => ldrhPostIndex _ _ _ | .ldrhPreIndex .. => ldrhPreIndex _ _ _
  | .ldrhRegisterOffset .. => ldrhRegisterOffset _ _ _ _ _
  | .strWUnsignedOffset .. => strWUnsignedOffset _ _ _ | .sturW .. => sturW _ _ _
  | .strWPostIndex .. => strWPostIndex _ _ _ | .strWPreIndex .. => strWPreIndex _ _ _
  | .strWRegisterOffset .. => strWRegisterOffset _ _ _ _ _
  | .ldrWUnsignedOffset .. => ldrWUnsignedOffset _ _ _ | .ldurW .. => ldurW _ _ _
  | .ldrWPostIndex .. => ldrWPostIndex _ _ _ | .ldrWPreIndex .. => ldrWPreIndex _ _ _
  | .ldrWRegisterOffset .. => ldrWRegisterOffset _ _ _ _ _
  | .strXUnsignedOffset .. => strXUnsignedOffset _ _ _ | .sturX .. => sturX _ _ _
  | .strXPostIndex .. => strXPostIndex _ _ _ | .strXPreIndex .. => strXPreIndex _ _ _
  | .strXRegisterOffset .. => strXRegisterOffset _ _ _ _ _
  | .ldrXUnsignedOffset .. => ldrXUnsignedOffset _ _ _ | .ldurX .. => ldurX _ _ _
  | .ldrXPostIndex .. => ldrXPostIndex _ _ _ | .ldrXPreIndex .. => ldrXPreIndex _ _ _
  | .ldrXRegisterOffset .. => ldrXRegisterOffset _ _ _ _ _
  | .ldrsbXUnsignedOffset .. => ldrsbXUnsignedOffset _ _ _ | .ldursbX .. => ldursbX _ _ _
  | .ldrsbXPostIndex .. => ldrsbXPostIndex _ _ _ | .ldrsbXPreIndex .. => ldrsbXPreIndex _ _ _
  | .ldrsbXRegisterOffset .. => ldrsbXRegisterOffset _ _ _ _ _
  | .ldrsbWUnsignedOffset .. => ldrsbWUnsignedOffset _ _ _ | .ldursbW .. => ldursbW _ _ _
  | .ldrsbWPostIndex .. => ldrsbWPostIndex _ _ _ | .ldrsbWPreIndex .. => ldrsbWPreIndex _ _ _
  | .ldrsbWRegisterOffset .. => ldrsbWRegisterOffset _ _ _ _ _
  | .ldrshXUnsignedOffset .. => ldrshXUnsignedOffset _ _ _ | .ldurshX .. => ldurshX _ _ _
  | .ldrshXPostIndex .. => ldrshXPostIndex _ _ _ | .ldrshXPreIndex .. => ldrshXPreIndex _ _ _
  | .ldrshXRegisterOffset .. => ldrshXRegisterOffset _ _ _ _ _
  | .ldrshWUnsignedOffset .. => ldrshWUnsignedOffset _ _ _ | .ldurshW .. => ldurshW _ _ _
  | .ldrshWPostIndex .. => ldrshWPostIndex _ _ _ | .ldrshWPreIndex .. => ldrshWPreIndex _ _ _
  | .ldrshWRegisterOffset .. => ldrshWRegisterOffset _ _ _ _ _
  | .ldrswUnsignedOffset .. => ldrswUnsignedOffset _ _ _ | .ldursw .. => ldursw _ _ _
  | .ldrswPostIndex .. => ldrswPostIndex _ _ _ | .ldrswPreIndex .. => ldrswPreIndex _ _ _
  | .ldrswRegisterOffset .. => ldrswRegisterOffset _ _ _ _ _ | .stpWOffset .. => stpWOffset _ _ _ _
  | .stpWPostIndex .. => stpWPostIndex _ _ _ _ | .stpWPreIndex .. => stpWPreIndex _ _ _ _
  | .ldpWOffset .. => ldpWOffset _ _ _ _ | .ldpWPostIndex .. => ldpWPostIndex _ _ _ _
  | .ldpWPreIndex .. => ldpWPreIndex _ _ _ _ | .stpXOffset .. => stpXOffset _ _ _ _
  | .stpXPostIndex .. => stpXPostIndex _ _ _ _ | .stpXPreIndex .. => stpXPreIndex _ _ _ _
  | .ldpXOffset .. => ldpXOffset _ _ _ _ | .ldpXPostIndex .. => ldpXPostIndex _ _ _ _
  | .ldpXPreIndex .. => ldpXPreIndex _ _ _ _ | .ldrWLiteral .. => ldrWLiteral _ _
  | .ldrXLiteral .. => ldrXLiteral _ _ | .ldrswLiteral .. => ldrswLiteral _ _ | .ldxr .. => ldxr _ _ _
  | .ldaxr .. => ldaxr _ _ _ | .stxr .. => stxr _ _ _ _ | .stlxr .. => stlxr _ _ _ _ | .ldar .. => ldar _ _ _
  | .stlr .. => stlr _ _ _ | .cas .. => cas _ _ _ _ _ _ | .swp .. => swp _ _ _ _ _ _
  | .ldadd .. => ldadd _ _ _ _ _ _ | .ldclr .. => ldclr _ _ _ _ _ _ | .ldeor .. => ldeor _ _ _ _ _ _
  | .ldset .. => ldset _ _ _ _ _ _ | .ldsmax .. => ldsmax _ _ _ _ _ _ | .ldsmin .. => ldsmin _ _ _ _ _ _
  | .ldumax .. => ldumax _ _ _ _ _ _ | .ldumin .. => ldumin _ _ _ _ _ _ | .ldapr .. => ldapr _ _ _

end RoundTrip

/-! ## From a word to its format and back -/

section Words

open BitVec (extractLsb'_append_extractLsb'_eq_extractLsb')

variable {w : BitVec 32} {f : Format}

theorem eq_one_of_ne_zero {b : BitVec 1} (h : b ≠ 0#1) : b = 1#1 := (BitVec.eq_zero_or_eq_one b).resolve_left h

/-! In each group, what a format fixes was read from the word, and so were its fields: joined they are the word. -/

theorem toWord_of_ofImmediateGroup (h : Format.ofImmediateGroup w = some f) : f.toWord = w := by
  unfold Format.ofImmediateGroup at h
  split_ifs at h with fixed fixed fixed fixed fixed fixed <;> cases h <;>
    simp (disch := rfl) only [Format.toWord, ← fixed, extractLsb'_append_extractLsb'_eq_extractLsb', extractLsb'_all]

theorem toWord_of_ofBranchGroup (h : Format.ofBranchGroup w = some f) : f.toWord = w := by
  unfold Format.ofBranchGroup at h
  split_ifs at h with fixed fixed fixed fixed fixed fixed fixed fixed fixed fixed <;> cases h <;>
    simp (disch := rfl) only [Format.toWord, ← fixed, extractLsb'_append_extractLsb'_eq_extractLsb', extractLsb'_all]

theorem toWord_of_ofRegisterGroup (h : Format.ofRegisterGroup w = some f) : f.toWord = w := by
  unfold Format.ofRegisterGroup at h
  by_cases addSub : w.extractLsb' 24 5 = 0b01011#5
  · simp only [addSub, BitVec.reduceEq, ↓reduceIte] at h
    split_ifs at h with bit <;> cases h
    · simp (disch := rfl) only [Format.toWord, ← addSub, ← bit,
        extractLsb'_append_extractLsb'_eq_extractLsb', extractLsb'_all]
    · simp (disch := rfl) only [Format.toWord, ← addSub, ← eq_one_of_ne_zero bit,
        extractLsb'_append_extractLsb'_eq_extractLsb', extractLsb'_all]
  · simp only [addSub, ↓reduceIte] at h
    split_ifs at h with fixed fixed fixed fixed fixed fixed fixed <;> cases h <;>
      simp (disch := rfl) only [Format.toWord, ← fixed, extractLsb'_append_extractLsb'_eq_extractLsb', extractLsb'_all]

theorem toWord_of_ofLoadStoreGroup (h : Format.ofLoadStoreGroup w = some f) : f.toWord = w := by
  unfold Format.ofLoadStoreGroup at h
  by_cases single : w.extractLsb' 24 6 = 0b111000#6
  · simp only [single, BitVec.reduceEq, ↓reduceIte] at h
    split_ifs at h with fixed bit opcode opcode <;> cases h
    · simp (disch := rfl) only [Format.toWord, ← fixed, extractLsb'_append_extractLsb'_eq_extractLsb', extractLsb'_all]
    · simp (disch := rfl) only [Format.toWord, ← single, ← bit,
        extractLsb'_append_extractLsb'_eq_extractLsb', extractLsb'_all]
    all_goals simp (disch := rfl) only [Format.toWord, ← single, ← eq_one_of_ne_zero bit, ← opcode,
      extractLsb'_append_extractLsb'_eq_extractLsb', extractLsb'_all]
  · simp only [single, ↓reduceIte] at h
    split_ifs at h with fixed fixed fixed fixed <;> cases h <;>
      simp (disch := rfl) only [Format.toWord, ← fixed, extractLsb'_append_extractLsb'_eq_extractLsb', extractLsb'_all]

/-- The word of the format that a word splits into is that word: no bit is ignored (R93). -/
theorem toWord_of_ofWord (h : Format.ofWord w = some f) : f.toWord = w := by
  unfold Format.ofWord at h
  dsimp only at h
  split_ifs at h with _ _ _ _ udf
  · exact toWord_of_ofImmediateGroup h
  · exact toWord_of_ofBranchGroup h
  · exact toWord_of_ofRegisterGroup h
  · exact toWord_of_ofLoadStoreGroup h
  · obtain rfl := Option.some.inj h
    simp only [Bool.and_eq_true, decide_eq_true_eq] at udf
    simp (disch := rfl) only [Format.toWord, ← udf.2, extractLsb'_append_extractLsb'_eq_extractLsb', extractLsb'_all]

end Words

/-! ## From a format to its instruction and back -/

section Fields

/-- A one-bit field is written as the `Bool` it reads as. -/
@[simp] theorem ofBool_isOne (v : BitVec 1) : BitVec.ofBool (isOne v) = v := by revert v; decide

/-- A shift type is written as the bits it is read from. -/
@[simp] theorem shiftBits_shiftOfBits (v : BitVec 2) : shiftBits (shiftOfBits v) = v := by revert v; decide

/-- An extend option is written as the bits it is read from. -/
@[simp] theorem extendBits_extendOfBits (v : BitVec 3) : extendBits (extendOfBits v) = v := by revert v; decide

/-- An access size is written as the bits it is read from. -/
@[simp] theorem sizeBits_sizeOfBits (v : BitVec 2) : sizeBits (sizeOfBits v) = v := by revert v; decide

theorem isOne_eq_iff (v : BitVec 1) (b : Bool) : isOne v = b ↔ v = BitVec.ofBool b := by
  revert v; cases b <;> decide

/-- The fields `size` and `opc` of a single-register load or store (R372). -/
def kindFields : LdStKind → BitVec 2 × BitVec 2
  | .strb => (0#2, 0#2)
  | .ldrb => (0#2, 1#2)
  | .ldrsbX => (0#2, 2#2)
  | .ldrsbW => (0#2, 3#2)
  | .strh => (1#2, 0#2)
  | .ldrh => (1#2, 1#2)
  | .ldrshX => (1#2, 2#2)
  | .ldrshW => (1#2, 3#2)
  | .strW => (2#2, 0#2)
  | .ldrW => (2#2, 1#2)
  | .ldrsw => (2#2, 2#2)
  | .strX => (3#2, 0#2)
  | .ldrX => (3#2, 1#2)

theorem ldStKindOf_eq_some {size opc : BitVec 2} {kind : LdStKind} :
    ldStKindOf size opc = some kind ↔ kindFields kind = (size, opc) := by
  revert size opc; cases kind <;> decide

/-- One of the load and store forms by kind: the instruction it selects has the format's fields back, if the
form gives each kind its own `size` and `opc`. -/
theorem toFormat_of_ldStKindOf {size opc : BitVec 2} {form : LdStKind → Instr} {i : Instr}
    {format : BitVec 2 → BitVec 2 → Format}
    (fields : ∀ kind, (form kind).toFormat = format (kindFields kind).1 (kindFields kind).2)
    (h : (ldStKindOf size opc).map form = some i) : i.toFormat = format size opc := by
  obtain ⟨kind, selected, rfl⟩ := Option.map_eq_some_iff.mp h
  rw [fields, ldStKindOf_eq_some.mp selected]

variable (kind : LdStKind) (imm12 : BitVec 12) (imm9 : BitVec 9) (rm rn rt : RegNum)

theorem toFormat_unsignedOffsetOf : (unsignedOffsetOf kind imm12 rn rt).toFormat =
    .ldstUnsigned (kindFields kind).1 (kindFields kind).2 imm12 rn rt := by cases kind <;> rfl

theorem toFormat_unscaledOf : (unscaledOf kind imm9 rn rt).toFormat =
    .ldstSigned (kindFields kind).1 (kindFields kind).2 imm9 0#2 rn rt := by cases kind <;> rfl

theorem toFormat_postIndexOf : (postIndexOf kind imm9 rn rt).toFormat =
    .ldstSigned (kindFields kind).1 (kindFields kind).2 imm9 1#2 rn rt := by cases kind <;> rfl

theorem toFormat_preIndexOf : (preIndexOf kind imm9 rn rt).toFormat =
    .ldstSigned (kindFields kind).1 (kindFields kind).2 imm9 3#2 rn rt := by cases kind <;> rfl

theorem toFormat_registerOffsetOf (ext : ExtendType) (scaled : Bool) :
    (registerOffsetOf kind rm ext scaled rn rt).toFormat =
      .ldstRegister (kindFields kind).1 (kindFields kind).2 rm (extendBits ext) (BitVec.ofBool scaled) rn rt := by
  cases kind <;> rfl

/-- The form that the `mode` of a signed offset selects. -/
theorem toFormat_ldstSigned {size opc mode : BitVec 2} {i : Instr}
    (h : (Format.ldstSigned size opc imm9 mode rn rt).toInstr? = some i) :
    i.toFormat = .ldstSigned size opc imm9 mode rn rt := by
  simp only [Format.toInstr?] at h
  split at h
  next hm =>
    obtain rfl : mode = 0#2 := BitVec.eq_of_toNat_eq hm
    exact toFormat_of_ldStKindOf (format := (.ldstSigned · · imm9 0#2 rn rt)) (toFormat_unscaledOf · imm9 rn rt) h
  next hm =>
    obtain rfl : mode = 1#2 := BitVec.eq_of_toNat_eq hm
    exact toFormat_of_ldStKindOf (format := (.ldstSigned · · imm9 1#2 rn rt)) (toFormat_postIndexOf · imm9 rn rt) h
  next hm =>
    obtain rfl : mode = 3#2 := BitVec.eq_of_toNat_eq hm
    exact toFormat_of_ldStKindOf (format := (.ldstSigned · · imm9 3#2 rn rt)) (toFormat_preIndexOf · imm9 rn rt) h
  next => cases h

end Fields

/-- The instruction that a format selects has that format: selecting ignores no field. -/
theorem toFormat_of_toInstr? {f : Format} {i : Instr} (h : f.toInstr? = some i) : i.toFormat = f := by
  cases f with
  | ldstUnsigned size opc imm12 rn rt =>
    exact toFormat_of_ldStKindOf (format := (.ldstUnsigned · · imm12 rn rt))
      (toFormat_unsignedOffsetOf · imm12 rn rt) h
  | ldstSigned => exact toFormat_ldstSigned _ _ _ h
  | ldstRegister size opc rm option scaled rn rt =>
    refine toFormat_of_ldStKindOf (format := (.ldstRegister · · rm option scaled rn rt)) (fun kind => ?_) h
    rw [toFormat_registerOffsetOf, extendBits_extendOfBits, ofBool_isOne]
  | sysOp | udf => cases h; rfl
  | _ =>
    -- A branch that selects an instruction fixes, by its tests, the opcode fields the instruction does not carry;
    -- the last branch of a match fixes them as the only value left.
    simp only [Format.toInstr?] at h
    (repeat' split at h) <;> cases h <;> simp_all [Instr.toFormat, isOne_eq_iff, ← BitVec.toNat_inj] <;> omega

/-! ## Obligations -/

/-- Settles O12: each stage of decoding gives back what the same stage of encoding was given. -/
theorem decodeEncode : Obligations.DecodeEncode := by
  unfold Obligations.DecodeEncode
  intro i wf
  exact decode_eq_instr.mpr ⟨i.toFormat, ofWord_toWord i.toFormat, RoundTrip.toInstr?_toFormat i wf, wf⟩

/-- Settles O13: the instruction has the format that selected it, and the format's word is the decoded one. -/
theorem encodeDecode : Obligations.EncodeDecode := by
  unfold Obligations.EncodeDecode
  intro w i h
  obtain ⟨f, split, selected, wf⟩ := decode_eq_instr.mp h
  exact ⟨by rw [encode, toFormat_of_toInstr? selected, toWord_of_ofWord split], wf⟩

end Sys2Proof.Laws
end

section
/-! PROOFS. The logical instructions with an immediate (R200, R201, R210 to R213), and the bits of the
immediate (R116). -/

namespace Sys2Proof.Machine

/-! ## The immediate -/

/-- The element size that N and `imms` give: N is set for 64 bits alone, and the bits of `imms` above a shorter
element are ones ended by a zero (R116). -/
theorem highestSetBit_elementSize : ∀ (nBit : Bool) (imms : BitVec 6),
    ∀ len ∈ highestSetBit (BitVec.ofBool nBit ++ ~~~imms), 1 ≤ len →
      2 ^ len ∈ [2, 4, 8, 16, 32, 64] ∧ (nBit = true ↔ 2 ^ len = 64) ∧
        (2 ^ len < 64 → imms.toNat / 2 ^ len = 64 / 2 ^ len - 2) := by decide

/-- Bit `i` of a repeated element of `s + 1` ones rotated right by `r` (R116). -/
theorem getLsbD_repeatedOnes {n e i : Nat} (s r : Nat) (he : 0 < e) (hi : i < n) :
    (bitsOfFn n fun i => (rotr e (lowOnes e (s + 1)) (r % e)).getLsbD (i % e)).getLsbD i =
      decide ((i % e + r) % e ≤ s) := by
  have inside (k : Nat) : k % e < e := Nat.mod_lt k he
  simp only [getLsbD_bitsOfFn, getLsbD_rotr, getLsbD_lowOnes, Nat.add_mod_mod, Nat.lt_succ_iff, hi, inside,
    decide_true, Bool.true_and]

/-- What a legal pattern is, and what immediate it gives (R116). -/
theorem decodeBitMasks_eq_some {n : Nat} {nBit : Bool} {imms immr : BitVec 6} {imm : BitVec n}
    (h : decodeBitMasks n nBit imms immr = some imm) :
    ∃ e ∈ [2, 4, 8, 16, 32, 64], e ≤ n ∧ (nBit = true ↔ e = 64) ∧ imms.toNat % e ≠ e - 1 ∧
      (e < 64 → imms.toNat / e = 64 / e - 2) ∧
      ∀ i < n, imm.getLsbD i = decide ((i % e + immr.toNat) % e ≤ imms.toNat % e) := by
  unfold decodeBitMasks at h
  split at h
  next => cases h
  next len highest =>
    dsimp only at h
    split_ifs at h with illegal
    obtain rfl := Option.some.inj h
    obtain ⟨pos, fits, notOnes⟩ : 1 ≤ len ∧ 2 ^ len ≤ n ∧ imms.toNat % 2 ^ len ≠ 2 ^ len - 1 := by
      simpa only [not_or, not_lt] using illegal
    obtain ⟨size, nBit_iff, high⟩ := highestSetBit_elementSize nBit imms len highest pos
    exact ⟨2 ^ len, size, fits, nBit_iff, notOnes, high, fun i hi => getLsbD_repeatedOnes _ _ (Nat.two_pow_pos len) hi⟩

/-! ## The instructions -/

section Immediate

variable {i : Instr} {s : State} {n : Nat} {nBit : Bool} {imms immr : BitVec 6} {k : BitVec n → Result}

theorem logicalImmediate_of_some {imm : BitVec n} (legal : decodeBitMasks n nBit imms immr = some imm) :
    logicalImmediate i s n nBit imms immr k = k imm := by
  rw [logicalImmediate, legal]

theorem logicalImmediate_of_none (illegal : decodeBitMasks n nBit imms immr = none) :
    logicalImmediate i s n nBit imms immr k = .fault (.unallocated s.pc (encode i)) := by
  rw [logicalImmediate, illegal]; rfl

end Immediate

theorem logicalFlags_eq (n : Nat) (r : BitVec n) : logicalFlags n r = flagsOf n r false false := by
  simp only [logicalFlags, flagsOf, ← BitVec.toNat_inj, BitVec.toNat_ofNat, Nat.zero_mod]

/-- What ANDS and BICS do: a write in zero-register mode, and the flags of the result (R200). -/
theorem State.rzAndFlags_wrRzLogicalFlags (s : State) {n : Nat} (rd : RegNum) (r : BitVec n) :
    s.RzAndFlags (s.wrRzLogicalFlags rd r) rd r (flagsOf n r false false) := by
  rw [← logicalFlags_eq]
  exact s.rzAndFlags rd r _

end Sys2Proof.Machine

namespace Sys2Proof.Laws

open Sys2Proof.Machine

/-! ## Obligation -/

/-- Settles O27, by whether the fields give an immediate. -/
theorem logicalImmediate : Obligations.LogicalImmediate := by
  unfold Obligations.LogicalImmediate
  intro s sf nBit immr imms rn rd a
  refine ⟨fun imm legal => ⟨decodeBitMasks_eq_some legal, ?and, ?orr, ?eor, ?ands⟩, fun illegal i hi => ?unallocated⟩
  case and => exact ⟨_, logicalImmediate_of_some legal, s.onlyRsp_wrRsp rd _⟩
  case orr => exact ⟨_, logicalImmediate_of_some legal, s.onlyRsp_wrRsp rd _⟩
  case eor => exact ⟨_, logicalImmediate_of_some legal, s.onlyRsp_wrRsp rd _⟩
  case ands => exact ⟨_, logicalImmediate_of_some legal, s.rzAndFlags_wrRzLogicalFlags rd _⟩
  case unallocated =>
    simp only [List.mem_cons, List.not_mem_nil, or_false] at hi
    obtain rfl | rfl | rfl | rfl := hi <;> exact logicalImmediate_of_none illegal

end Sys2Proof.Laws
end

section
/-! PROOFS. PC-relative addresses (R120, R323, R324) and direct branches (R119, R326 to R332). -/

namespace Sys2Proof.Machine

/-! ## Offsets as integers -/

/-- A signed field with an unsigned one below it, sign-extended. -/
theorem signExtend_append {m n : Nat} (x : BitVec m) (y : BitVec n) (hm : m ≠ 0) :
    (x ++ y).signExtend 64 = BitVec.ofInt 64 (x.toInt * 2 ^ n + y.toNat) := by
  rw [BitVec.signExtend, BitVec.toInt_append, if_neg (by simpa using hm), Int.mul_comm]

theorem add_ofInt (a : Word) (k : Int) : a + BitVec.ofInt 64 k = BitVec.ofInt 64 (a.toNat + k) := by
  rw [BitVec.ofInt_add, BitVec.ofInt_natCast, BitVec.ofNat_toNat, BitVec.setWidth_eq]

/-- A branch offset counts words (R119). -/
theorem State.pcOffset_eq (s : State) {k : Nat} (imm : BitVec k) (hk : k ≠ 0) :
    s.pcOffset imm = BitVec.ofInt 64 (s.pc.toNat + imm.toInt * 4) := by
  rw [State.pcOffset, wordOffset, signExtend_append imm _ hk, add_ofInt]
  simp

/-- The offset of ADR counts bytes (R120). -/
theorem adrOffset_eq (immhi : BitVec 19) (immlo : BitVec 2) :
    adrOffset immhi immlo = BitVec.ofInt 64 (immhi.toInt * 4 + immlo.toNat) :=
  signExtend_append immhi immlo (by decide)

/-- The offset of ADRP counts pages (R120). -/
theorem adrpOffset_eq (immhi : BitVec 19) (immlo : BitVec 2) :
    adrpOffset immhi immlo = BitVec.ofInt 64 ((immhi.toInt * 4 + immlo.toNat) * 4096) := by
  have offset : (immhi ++ immlo).toInt = immhi.toInt * 4 + immlo.toNat := by
    rw [BitVec.toInt_append, if_neg (by decide), Int.mul_comm]; rfl
  rw [adrpOffset, signExtend_append _ _ (by decide), offset]
  simp

/-- The page of an address: its low twelve bits cleared (R324). -/
theorem and_not_pageMask (a : Word) : a &&& ~~~0xFFF#64 = BitVec.ofNat 64 (a.toNat - a.toNat % 4096) := by
  have mask : ∀ i < 64, (~~~0xFFF#64).getLsbD i = decide (12 ≤ i) := by decide
  have cleared : a &&& ~~~0xFFF#64 = a >>> 12 <<< 12 := by
    apply BitVec.eq_of_getLsbD_eq
    intro i hi
    rw [BitVec.getLsbD_and, mask i hi, BitVec.getLsbD_shiftLeft, BitVec.getLsbD_ushiftRight]
    by_cases low : i < 12
    · simp [low, Nat.not_le.mpr low]
    · simp [low, hi, Nat.not_lt.mp low, Nat.add_sub_cancel' (Nat.not_lt.mp low)]
  apply BitVec.eq_of_toNat_eq
  rw [cleared, BitVec.toNat_shiftLeft, BitVec.toNat_ushiftRight, BitVec.toNat_ofNat, Nat.shiftLeft_eq,
    Nat.shiftRight_eq_div_pow]
  omega

/-! ## Branches -/

/-- The number of the bit that TBZ and TBNZ test: `b5` is its bit 5 (R329, R332). -/
theorem State.testedBit_eq (s : State) (b5 : Bool) (b40 : BitVec 5) (rt : RegNum) :
    s.testedBit b5 b40 rt = (s.rz 64 rt).getLsbD (b40.toNat + if b5 then 32 else 0) := by
  have number : (BitVec.ofBool b5 ++ b40).toNat = b40.toNat + if b5 then 32 else 0 := by
    revert b40; cases b5 <;> decide
  rw [State.testedBit, number]

/-- A direct branch: taken, it moves PC by its words; not taken, it changes nothing. -/
theorem exec_branchIf {s : State} {i : Instr} {b : Bool} {taken : Prop} {k : Nat} (imm : BitVec k) (hk : k ≠ 0)
    (run : exec i s = .next (s.branchIf b (s.pcOffset imm))) (hb : b = true ↔ taken) :
    (taken → ∃ t, exec i s = .next t ∧ s.Branched t (BitVec.ofInt 64 (s.pc.toNat + imm.toInt * 4)) ∧
      s.SameRegs t ∧ t.btypeNext = s.btypeNext) ∧
    (¬taken → exec i s = .next s) := by
  rw [← s.pcOffset_eq imm hk]
  refine ⟨fun yes => ⟨s.branchTo (s.pcOffset imm), ?_, s.branched_branchTo _, .of rfl rfl, rfl⟩, fun no => ?_⟩
  · rw [run, hb.mpr yes]; rfl
  · rw [run, Bool.eq_false_iff.mpr (mt hb.mp no)]; rfl

/-- A branch with link writes PC and X30 (R331, R335). -/
theorem State.branched_link_branchTo (s : State) (a : Word) : s.Branched (s.link.branchTo a) a :=
  have branched := s.link.branched_branchTo a
  ⟨rfl, rfl, branched.sp.trans s.link_sp, branched.flags.trans s.link_nzcv,
    (s.sameMemory_wrRz _ _).trans branched.memory, (s.sameUnits_wrRz _ _).trans branched.units⟩

/-! ## Obligations -/

/-- Settles O37: each is one register write of a sum of integers. -/
theorem pcRelative : Obligations.PcRelative := by
  unfold Obligations.PcRelative
  intro s immlo immhi rd imm
  refine ⟨⟨_, rfl, ?adr⟩, ⟨_, rfl, ?adrp⟩⟩
  case adr =>
    rw [← add_ofInt, ← adrOffset_eq]
    exact s.onlyRz_wrRz rd _
  case adrp =>
    rw [BitVec.ofInt_add, BitVec.ofInt_natCast, ← and_not_pageMask, ← adrpOffset_eq]
    exact s.onlyRz_wrRz rd _

/-- Settles O38: each but BL is a branch on its condition, and BL is a register write before one. -/
theorem directBranches : Obligations.DirectBranches := by
  unfold Obligations.DirectBranches
  intro s sf imm26 imm19 imm14 cond b40 rt target branchIf bit
  refine ⟨?b, ?bCond, ?cbz, ?cbnz, ?tbz, ?tbnz, ?bl⟩
  case b => exact exec_branchIf (b := true) imm26 (by decide) rfl (by decide)
  case bCond => exact exec_branchIf imm19 (by decide) rfl Iff.rfl
  case cbz => exact exec_branchIf imm19 (by decide) rfl decide_eq_true_iff
  case cbnz => exact exec_branchIf imm19 (by decide) rfl decide_eq_true_iff
  case tbz => exact exec_branchIf imm14 (by decide) rfl (by rw [s.testedBit_eq, Bool.not_eq_true'])
  case tbnz => exact exec_branchIf imm14 (by decide) rfl (by rw [s.testedBit_eq])
  case bl =>
    have run : exec (.bl imm26) s = .next (s.link.branchTo (target imm26.toInt)) :=
      congrArg (fun a => (.next (s.link.branchTo a) : Result)) (s.pcOffset_eq imm26 (by decide))
    exact ⟨_, run, s.branched_link_branchTo _, (s.wroteRz_wrRz 30#5 _).thenSameRegs (.of rfl rfl), s.link_btypeNext⟩

end Sys2Proof.Machine
end

section
/-! PROOFS. AddWithCarry and the conditions (R131, R145). -/

namespace Sys2Proof.Machine

/-! ## AddWithCarry -/

/-- A carry out leaves the sum less 2^n. -/
theorem toNat_sumOf {n : Nat} (a b : BitVec n) (c : Bool) : (sumOf n a b c.toNat).toNat =
    if 2 ^ n ≤ a.toNat + b.toNat + c.toNat then a.toNat + b.toNat + c.toNat - 2 ^ n
    else a.toNat + b.toNat + c.toNat := by
  have ha := a.isLt
  have hb := b.isLt
  have hc := c.toNat_le
  rw [sumOf, BitVec.toNat_ofNat]
  split
  next carry => rw [Nat.mod_eq_sub_mod carry, Nat.mod_eq_of_lt (by omega)]
  next noCarry => exact Nat.mod_eq_of_lt (Nat.not_le.mp noCarry)

/-- The carry in R131's terms, where every difference stays in range, is unsigned overflow. -/
theorem carryOut_iff {n : Nat} (hn : 0 < n) (a b : BitVec n) (c : Bool) :
    (2 ^ n - 1 - c.toNat < a.toNat ∨ 2 ^ n - 1 - c.toNat - a.toNat < b.toNat) ↔
      2 ^ n ≤ a.toNat + b.toNat + c.toNat := by
  have ha := a.isLt
  have hb := b.isLt
  have hc := c.toNat_le
  have two := Nat.pow_le_pow_right (n := 2) (by decide) hn
  omega

/-- The overflow in R131's terms, by sign bits, is signed overflow. -/
theorem overflow_iff {n : Nat} (hn : 0 < n) (a b : BitVec n) (c : Bool) :
    (a.msb = b.msb ∧ a.msb ≠ (sumOf n a b c.toNat).msb) ↔ outOfRange n (a.toInt + b.toInt + c.toNat) = true := by
  have half : 2 ^ n = 2 * 2 ^ (n - 1) := by rw [← Nat.pow_succ', Nat.succ_eq_add_one, Nat.sub_add_cancel hn]
  have sum := toNat_sumOf a b c
  have ha := a.isLt
  have hb := b.isLt
  have hc := c.toNat_le
  simp only [outOfRange, BitVec.toInt_eq_toNat_cond, BitVec.msb_eq_decide, decide_eq_true_eq, decide_eq_decide, ne_eq]
  rw [show (2 : Int) ^ (n - 1) = (2 ^ (n - 1) : Nat) by norm_cast]
  generalize 2 ^ (n - 1) = h at *
  generalize 2 ^ n = N at *
  subst half
  split at sum <;> split_ifs <;> omega

/-- R131's result and flags are those of the sum as an integer (R132). -/
theorem addWithCarry_eq {n : Nat} (hn : 0 < n) (a b : BitVec n) (c : Bool) :
    addWithCarry n a b c = (sumOf n a b c.toNat, sumFlags n a b c.toNat) := by
  have zero : sumOf n a b c.toNat = 0#n ↔ (sumOf n a b c.toNat).toNat = 0 := by
    rw [← BitVec.toNat_inj, BitVec.toNat_ofNat, Nat.zero_mod]
  have overflow := Bool.eq_iff_iff.mpr (decide_eq_true_iff.trans (overflow_iff hn a b c))
  have result : BitVec.ofNat n (a.toNat + b.toNat + c.toNat) = sumOf n a b c.toNat := rfl
  rw [addWithCarry, sumFlags, flagsOf, result, ← Bool.decide_or, ← Bool.decide_and, decide_eq_decide.mpr zero,
    decide_eq_decide.mpr (carryOut_iff hn a b c), overflow]

/-! ## Obligations -/

/-- Settles O16: the flags in R131's terms are those of the sum as an integer. -/
theorem addWithCarryLaws : Obligations.AddWithCarryLaws := by
  unfold Obligations.AddWithCarryLaws
  intro n l r c hn sum
  have eq : sum = (sumOf n l r c.toNat, sumFlags n l r c.toNat) := addWithCarry_eq hn l r c
  simp only [← BitVec.msb_eq_getLsbD_last]
  refine ⟨congrArg Prod.fst eq, congrArg Prod.snd eq, rfl, decide_eq_true_iff, ?carry, ?overflow⟩
  case carry => rw [carryOut_iff hn, eq]; exact decide_eq_true_iff
  case overflow => rw [eq]; exact (overflow_iff hn l r c).symm

/-- Settles O21: every code on every setting of the four flags. -/
theorem conditionTable : Obligations.ConditionTable := by
  unfold Obligations.ConditionTable
  rintro ⟨n, z, c, v⟩
  revert n z c v
  decide

end Sys2Proof.Machine
end

section
/-! PROOFS. The shifts (R133 to R137) and the extended operand (R138). -/

namespace Sys2Proof.Machine

/-! ## Rotation -/

/-- Rotating right by `k`, then by the rest of the width, is a full turn (R137). -/
theorem rotr_rotr {n k : Nat} (v : BitVec n) (hk : k < n) : rotr n (rotr n v k) (n - k) = v := by
  apply BitVec.eq_of_getLsbD_eq
  intro i hi
  have inside : (i + (n - k)) % n < n := Nat.mod_lt _ (by omega)
  have turn : ((i + (n - k)) % n + k) % n = i := by
    rw [Nat.mod_add_mod, show i + (n - k) + k = i + n by omega, Nat.add_mod_right, Nat.mod_eq_of_lt hi]
  simp only [getLsbD_rotr, hi, inside, turn, decide_true, Bool.true_and]

/-! ## Extension -/

theorem ofNat_two_pow (n k : Nat) : BitVec.ofNat n (2 ^ k) = BitVec.twoPow n k :=
  BitVec.eq_of_toNat_eq (by rw [BitVec.toNat_ofNat, BitVec.toNat_twoPow])

/-- An unsigned type multiplies the low bits as a natural (R138). -/
theorem extend_of_unsigned {n : Nat} {ty : ExtendType} (h : extendSigned ty = false) (v : BitVec n) (k : Nat) :
    extend n v ty k = BitVec.ofNat n (v.toNat % 2 ^ min (extendWidth ty) n * 2 ^ k) := by
  rw [BitVec.ofNat_mul, ← BitVec.toNat_setWidth, BitVec.ofNat_toNat, ofNat_two_pow,
    ← BitVec.shiftLeft_eq_mul_twoPow, extend, h]
  rfl

/-- A signed type multiplies the low bits as an integer (R138). -/
theorem extend_of_signed {n : Nat} {ty : ExtendType} (h : extendSigned ty = true) (v : BitVec n) (k : Nat) :
    extend n v ty k = BitVec.ofInt n ((v.setWidth (min (extendWidth ty) n)).toInt * 2 ^ k) := by
  have power : BitVec.ofInt n (2 ^ k) = BitVec.twoPow n k :=
    (BitVec.ofInt_natCast n (2 ^ k)).trans (ofNat_two_pow n k)
  rw [BitVec.ofInt_mul, power, ← BitVec.shiftLeft_eq_mul_twoPow, extend, h]
  rfl

/-! ## Obligations -/

/-- Settles O17: LSL, LSR and ASR by the library's arithmetic of shifts, ROR by its bits. -/
theorem shiftLaws : Obligations.ShiftLaws := by
  unfold Obligations.ShiftLaws
  intro n v k _
  refine ⟨fun ty hk => if_pos hk, fun ty hk => if_neg (Nat.not_lt.mpr hk), shift_zero n v,
    fun hk => ⟨?lsl, ?lsr, ?asr, ?ror, fun _ => rotr_rotr v hk⟩⟩
  case lsl => rw [shift, BitVec.toNat_shiftLeft, Nat.shiftLeft_eq]
  case lsr => rw [shift, BitVec.toNat_ushiftRight, Nat.shiftRight_eq_div_pow]
  case asr => rw [shift, BitVec.toInt_sshiftRight, Int.shiftRight_eq_div_pow]; norm_cast
  case ror => exact fun i hi => by rw [shift, getLsbD_rotr, decide_eq_true hi, Bool.true_and]

/-- Settles O18, by whether the type is signed. -/
theorem extendLaws : Obligations.ExtendLaws := by
  unfold Obligations.ExtendLaws
  intro sf v k
  refine ⟨fun ty hk => if_neg (Nat.not_le.mpr hk), fun hk => ⟨fun ty => if_pos hk, fun e he => ?unsigned,
    fun e he => ?signed⟩⟩
  case unsigned =>
    have type : extendSigned e.1 = false ∧ extendWidth e.1 = e.2 := by revert e; decide
    rw [extend_of_unsigned type.1, type.2]
  case signed =>
    have type : extendSigned e.1 = true ∧ extendWidth e.1 = e.2 := by revert e; decide
    rw [extend_of_signed type.1, type.2]

end Sys2Proof.Machine
end

section
/-! PROOFS. The bitfield moves and EXTR (R139, R250 to R253, R255), bit by bit. -/

namespace Sys2Proof.Machine

/-! ## Bitfield -/

section Bitfield

variable {n r s i : Nat} (src dst : BitVec n) (inzero ext : Bool)

/-- The masked merge of R139: inside the mask the rotated source, outside it the base; above bit `d` the sign. -/
theorem getLsbD_maskedMerge (rot mask base : BitVec n) (sign : Bool) (d : Nat) (hi : i < n) :
    ((if sign then ~~~lowOnes n (d + 1) else 0#n) ||| (rot &&& mask) ||| (base &&& ~~~mask)).getLsbD i =
      ((sign && !decide (i ≤ d)) || if mask.getLsbD i then rot.getLsbD i else base.getLsbD i) := by
  have signBit : (if sign then ~~~lowOnes n (d + 1) else 0#n).getLsbD i = (sign && !decide (i ≤ d)) := by
    cases sign <;> simp [-BitVec.getLsbD_eq_getElem, getLsbD_lowOnes, hi]
  rw [BitVec.getLsbD_or, BitVec.getLsbD_or, BitVec.getLsbD_and, BitVec.getLsbD_and, BitVec.getLsbD_not, signBit]
  cases mask.getLsbD i <;> simp [hi]

/-- The base of a bitfield is zero or the destination (R139). -/
theorem getLsbD_bitfieldBase : (if inzero then 0#n else dst).getLsbD i = (!inzero && dst.getLsbD i) := by
  cases inzero <;> simp

/-- A field taken from bit `r` up goes to bit 0: `s - r + 1` bits of it, the sign or the base above (R139). -/
theorem getLsbD_bitfield_of_le (hrs : r ≤ s) (hs : s < n) (hi : i < n) :
    (bitfield n src dst r s inzero ext).getLsbD i =
      if i ≤ s - r then src.getLsbD (i + r) else (ext && src.getLsbD s) || (!inzero && dst.getLsbD i) := by
  simp only [bitfield, ge_iff_le, hrs, if_true]
  rw [getLsbD_maskedMerge _ _ _ _ _ hi, getLsbD_bitfieldBase, getLsbD_rotr, getLsbD_lowOnes]
  by_cases field : i ≤ s - r
  · have noWrap : (i + r) % n = i + r := Nat.mod_eq_of_lt (by omega)
    simp [field, hi, noWrap]
  · simp [field]

/-- A field of the low `s + 1` bits goes to bit `n - r`: the base below, the sign or the base above (R139). -/
theorem getLsbD_bitfield_of_lt (hsr : s < r) (hr : r < n) (hi : i < n) :
    (bitfield n src dst r s inzero ext).getLsbD i =
      if i < n - r then !inzero && dst.getLsbD i
      else if i ≤ n - r + s then src.getLsbD (i - (n - r))
      else (ext && src.getLsbD s) || (!inzero && dst.getLsbD i) := by
  have inside : (i + r) % n < n := Nat.mod_lt _ (by omega)
  simp only [bitfield, ge_iff_le, Nat.not_le.mpr hsr, if_false, show s + n - r = n - r + s by omega]
  rw [getLsbD_maskedMerge _ _ _ _ _ hi, getLsbD_bitfieldBase, getLsbD_rotr, getLsbD_rotr, getLsbD_lowOnes,
    decide_eq_true hi, decide_eq_true inside, Bool.true_and, Bool.true_and, Bool.true_and]
  by_cases below : i < n - r
  · have noWrap : (i + r) % n = i + r := Nat.mod_eq_of_lt (by omega)
    have noField : ¬i + r < s + 1 := by omega
    have noSign : i ≤ n - r + s := by omega
    simp [below, noWrap, noField, noSign]
  · have wrap : (i + r) % n = i - (n - r) := by
      rw [Nat.mod_eq_sub_mod (by omega), Nat.mod_eq_of_lt (by omega)]
      omega
    have field : i - (n - r) < s + 1 ↔ i ≤ n - r + s := by omega
    by_cases within : i ≤ n - r + s <;> simp [below, wrap, field, within]

/-- Every bit of a bitfield, by whether the field moves down or up (R139). -/
theorem getLsbD_bitfield (hr : r < n) (hs : s < n) (hi : i < n) :
    (bitfield n src dst r s inzero ext).getLsbD i =
      if r ≤ s then
        if i ≤ s - r then src.getLsbD (i + r) else (ext && src.getLsbD s) || (!inzero && dst.getLsbD i)
      else if i < n - r then !inzero && dst.getLsbD i
      else if i ≤ n - r + s then src.getLsbD (i - (n - r))
      else (ext && src.getLsbD s) || (!inzero && dst.getLsbD i) := by
  split
  next down => exact getLsbD_bitfield_of_le src dst inzero ext down hs hi
  next up => exact getLsbD_bitfield_of_lt src dst inzero ext (Nat.not_le.mp up) hr hi

end Bitfield

/-! ## Extract -/

/-- The bits of EXTR: those of `lo` from `lsb` up, then those of `hi` (R255). -/
theorem getLsbD_extractPair {n lsb i : Nat} (hi lo : BitVec n) (h : i < n) :
    (extractPair n hi lo lsb).getLsbD i =
      if i + lsb < n then lo.getLsbD (i + lsb) else hi.getLsbD (i + lsb - n) := by
  rw [extractPair, BitVec.getLsbD_extractLsb', decide_eq_true h, Bool.true_and, Nat.add_comm lsb i,
    BitVec.getLsbD_append]

/-! ## Obligation -/

/-- A position inside the width meets the constraint of the format (R98, R99). -/
theorem amountInRange_of_lt {sf : Bool} {imm6 : BitVec 6} (h : imm6.toNat < width sf) :
    amountInRange sf imm6 = true := by
  cases sf with
  | false => exact decide_eq_true h
  | true => rfl

/-- Settles O31: each is one register write, of a bitfield with the rule's `inzero` and `extend`, or
of a part of Rn : Rm. -/
theorem bitfieldAndExtract : Obligations.BitfieldAndExtract := by
  unfold Obligations.BitfieldAndExtract
  intro s sf rm immr imms rn rd hr hs n src dst field
  have fits : (decide (sf = sf) && amountInRange sf immr && amountInRange sf imms) = true := by
    simp [amountInRange_of_lt hr, amountInRange_of_lt hs]
  have fitsExtr : (decide (sf = sf) && amountInRange sf imms) = true := by simp [amountInRange_of_lt hs]
  have bits (inzero ext : Bool) (i : Nat) (hi : i < n) :
      (bitfield n src dst immr.toNat imms.toNat inzero ext).getLsbD i =
        field i ((ext && src.getLsbD imms.toNat) || (!inzero && dst.getLsbD i)) (!inzero && dst.getLsbD i) :=
    getLsbD_bitfield src dst inzero ext hr hs hi
  refine ⟨⟨_, _, whenWellFormed_pos fits, s.onlyRz_wrRz rd _, fun i hi => ?sbfm⟩,
    ⟨_, _, whenWellFormed_pos fits, s.onlyRz_wrRz rd _, fun i hi => ?bfm⟩,
    ⟨_, _, whenWellFormed_pos fits, s.onlyRz_wrRz rd _, fun i hi => ?ubfm⟩,
    ⟨_, _, whenWellFormed_pos fitsExtr, s.onlyRz_wrRz rd _, fun i hi => getLsbD_extractPair _ _ hi⟩⟩
  case sbfm => simpa using bits true true i hi
  case bfm => simpa using bits false false i hi
  case ubfm => simpa using bits true false i hi

end Sys2Proof.Machine
end

section
/-! PROOFS. Counts and reversals bit by bit (R140 to R143), and the one-source instructions (R270 to R277). -/

namespace Sys2Proof.Machine

/-! ## Counts -/

section Counts

variable {n : Nat} (x : BitVec n)

@[simp] theorem clz_zero (n : Nat) : clz n 0#n = n := if_pos rfl

/-- The highest bit set is the one that the count stops at (R140). -/
theorem log2_add_clz {x : BitVec n} (hx : x ≠ 0#n) : x.toNat.log2 + clz n x + 1 = n := by
  have nonzero : x.toNat ≠ 0 := fun h => hx (BitVec.eq_of_toNat_eq h)
  have top : x.toNat.log2 < n := (Nat.log2_lt nonzero).mpr x.isLt
  rw [clz, if_neg hx]
  omega

theorem clz_le : clz n x ≤ n := by
  by_cases hx : x = 0#n
  · rw [hx, clz_zero]
  · have := log2_add_clz hx
    omega

/-- The bits that CLZ counts are zero (R140). -/
theorem getLsbD_of_clz_le {j : Nat} (hj : n ≤ j + clz n x) : x.getLsbD j = false := by
  by_cases hx : x = 0#n
  · rw [hx, BitVec.getLsbD_zero]
  · have := log2_add_clz hx
    exact Nat.testBit_lt_two_pow (Nat.lt_of_lt_of_le Nat.lt_log2_self (Nat.pow_le_pow_right (by decide) (by omega)))

/-- The bit that CLZ stops at is set (R140). -/
theorem getLsbD_clz {j : Nat} (hj : j + clz n x + 1 = n) : x.getLsbD j = true := by
  have hx : x ≠ 0#n := fun h => by rw [h, clz_zero] at hj; omega
  have nonzero : x.toNat ≠ 0 := fun h => hx (BitVec.eq_of_toNat_eq h)
  obtain rfl : j = x.toNat.log2 := by have := log2_add_clz hx; omega
  exact Nat.testBit_log2 nonzero

/-- The string in which CLS counts leading zeros: where a bit differs from the one above it (R141). -/
def bitChanges : BitVec (n - 1) := x.extractLsb' 1 (n - 1) ^^^ x.extractLsb' 0 (n - 1)

theorem cls_eq : cls n x = clz (n - 1) (bitChanges x) := rfl

theorem getLsbD_bitChanges {i : Nat} (hi : i + 1 < n) :
    (bitChanges x).getLsbD i = (x.getLsbD (i + 1) ^^ x.getLsbD i) := by
  have inside : i < n - 1 := by omega
  simp only [bitChanges, BitVec.getLsbD_xor, BitVec.getLsbD_extractLsb', inside, decide_true, Bool.true_and,
    Nat.zero_add, Nat.add_comm 1 i]

theorem cls_lt (hn : 0 < n) : cls n x < n := by
  have := clz_le (bitChanges x)
  rw [cls_eq]
  omega

/-- The bits that CLS counts equal the sign (R141). -/
theorem getLsbD_of_cls_le {j : Nat} (hj : n ≤ j + cls n x + 1) (hjn : j < n) : x.getLsbD j = x.msb := by
  rw [BitVec.msb_eq_getLsbD_last]
  refine Nat.decreasingInduction' (P := fun i => x.getLsbD i = x.getLsbD (n - 1)) (fun i hi hji ih => ?_)
    (by omega) rfl
  have same := getLsbD_of_clz_le (bitChanges x) (j := i) (by rw [cls_eq] at hj; omega)
  rw [getLsbD_bitChanges x (by omega)] at same
  exact (bne_eq_false_iff_eq.mp same).symm.trans ih

/-- The bit that CLS stops at differs from the sign (R141). -/
theorem getLsbD_cls {j : Nat} (hj : j + cls n x + 2 = n) : x.getLsbD j ≠ x.msb := by
  have differ := getLsbD_clz (bitChanges x) (j := j) (by rw [cls_eq] at hj; omega)
  rw [getLsbD_bitChanges x (by omega), getLsbD_of_cls_le x (by omega) (by omega)] at differ
  exact fun same => by simp [same] at differ

end Counts

/-! ## Reversals and instructions -/

/-- A byte of a container comes from its mirror image (R143). -/
theorem reverseBytesSource_eq {block c j b : Nat} (hblock : block ∈ [16, 32, 64]) (hj : j < block / 8) (hb : b < 8) :
    reverseBytesSource block (block * c + 8 * (block / 8 - 1 - j) + b) = block * c + 8 * j + b := by
  simp only [List.mem_cons, List.not_mem_nil, or_false] at hblock
  unfold reverseBytesSource
  obtain rfl | rfl | rfl := hblock <;> omega

/-- An instruction whose meaning is a write in zero-register mode. -/
theorem exec_onlyRz {i : Instr} {s : State} {n : Nat} {rd : RegNum} {v : BitVec n}
    (run : exec i s = .next (s.wrRz rd v)) : ∃ t, exec i s = .next t ∧ s.OnlyRz t rd v :=
  ⟨_, run, s.onlyRz_wrRz rd v⟩

/-! ## Obligations -/

/-- Settles O20: the counts by the bits they count and the bit they stop at, the
reversals by the source of each bit. -/
theorem countsAndReversals : Obligations.CountsAndReversals := by
  unfold Obligations.CountsAndReversals
  intro n x
  refine ⟨clz_zero n, fun hx => ?clz, fun hn => ⟨cls_lt x (by omega),
    fun j hj hjn => getLsbD_of_cls_le x (by omega) hjn, fun h => getLsbD_cls x (by omega)⟩, fun i hi => ?bits,
    fun block hblock c j b hc hj hb => ?bytes⟩
  case clz =>
    have := log2_add_clz hx
    exact ⟨by omega, getLsbD_clz x (by omega), fun j hj => getLsbD_of_clz_le x (by omega)⟩
  case bits => rw [getLsbD_reverseBits, decide_eq_true hi, Bool.true_and]
  case bytes =>
    have inside : block * c + 8 * (block / 8 - 1 - j) + b < n := by omega
    rw [getLsbD_reverseBytes, decide_eq_true inside, Bool.true_and, reverseBytesSource_eq hblock hj hb]

/-- Settles O32: each is one register write. -/
theorem oneSource : Obligations.OneSource := by
  unfold Obligations.OneSource
  intro s sf rn rd x
  refine ⟨fun e he => ?bySize, exec_onlyRz rfl, exec_onlyRz rfl, exec_onlyRz rfl⟩
  case bySize =>
    simp only [List.mem_cons, List.not_mem_nil, or_false] at he
    obtain rfl | rfl | rfl | rfl := he <;> exact exec_onlyRz rfl

end Sys2Proof.Machine
end

section
/-! PROOFS. Division (R148, R281, R282), CRC32 (R144, R146, R288 to R296) and multiplication (R149, R301 to R308). -/

namespace Sys2Proof.Machine

/-! ## Division -/

theorem width_pos (sf : Bool) : 0 < width sf := by cases sf <;> decide

section Division

variable {n : Nat} (a b : BitVec n)

/-- Division by zero included: `x / 0 = 0` on `Nat`, as R148 has it. -/
theorem toNat_uDiv : (uDiv n a b).toNat = a.toNat / b.toNat := by
  unfold uDiv
  split
  next zero => simp [zero]
  next =>
    rw [toBits, BitVec.ofInt_natCast, BitVec.toNat_ofNat]
    exact Nat.mod_eq_of_lt ((Nat.div_le_self _ _).trans_lt a.isLt)

/-- R148's SDiv is the library's signed division. -/
theorem sDiv_eq_sdiv : sDiv n a b = a.sdiv b := by
  unfold sDiv
  split
  next zero => rw [zero, BitVec.sdiv_zero]
  next => exact BitVec.eq_of_toInt_eq (by rw [toBits, BitVec.toInt_ofInt, BitVec.toInt_sdiv])

variable {a b}

theorem toInt_neg_one (hn : 0 < n) : (-1#n).toInt = -1 := by
  rw [BitVec.neg_one_eq_allOnes, BitVec.toInt_allOnes, if_pos hn]

/-- The least number by -1: the quotient is out of range and wraps to the least number (R148). -/
theorem sDiv_of_overflow (hn : 0 < n) (hb : b.toInt = -1) (ha : a.toInt = -2 ^ (n - 1)) : sDiv n a b = a := by
  obtain rfl : a = BitVec.intMin n := BitVec.toInt_inj.mp (ha.trans (BitVec.toInt_intMin_of_pos hn).symm)
  obtain rfl : b = -1#n := BitVec.toInt_inj.mp (hb.trans (toInt_neg_one hn).symm)
  rw [sDiv_eq_sdiv, BitVec.intMin_sdiv_neg_one]

theorem toInt_sDiv (hn : 0 < n) (h : ¬(b.toInt = -1 ∧ a.toInt = -2 ^ (n - 1))) :
    (sDiv n a b).toInt = a.toInt.tdiv b.toInt := by
  rw [sDiv_eq_sdiv]
  refine BitVec.toInt_sdiv_of_ne_or_ne a b (Classical.or_iff_not_imp_left.mpr fun ha hb => h ⟨?_, ?_⟩)
  · rw [hb, toInt_neg_one hn]
  · rw [not_not.mp ha, BitVec.toInt_intMin_of_pos hn]

end Division

/-! ## High halves of products -/

/-- Bits 127 to 64 of an integer are its quotient by 2^64, rounded down. -/
theorem extractHigh_ofInt (p : Int) : (BitVec.ofInt 128 p).extractLsb' 64 64 = BitVec.ofInt 64 (p / 2 ^ 64) := by
  apply BitVec.eq_of_toNat_eq
  rw [BitVec.extractLsb'_toNat, BitVec.toNat_ofInt, BitVec.toNat_ofInt, Nat.shiftRight_eq_div_pow]
  omega

theorem toInt_mulHigh (a b : Word) : (mulHigh true a b).toInt = a.toInt * b.toInt / 2 ^ 64 := by
  have lower : -2 ^ 126 ≤ a.toInt * b.toInt := BitVec.le_toInt_mul_toInt
  have upper : a.toInt * b.toInt ≤ 2 ^ 126 := BitVec.toInt_mul_toInt_le
  rw [show mulHigh true a b = BitVec.ofInt 64 (a.toInt * b.toInt / 2 ^ 64) from extractHigh_ofInt _]
  exact BitVec.toInt_ofInt_eq_self (by decide) (by omega) (by omega)

theorem toNat_mulHigh (a b : Word) : (mulHigh false a b).toNat = a.toNat * b.toNat / 2 ^ 64 := by
  have bound : a.toNat * b.toNat < 2 ^ 64 * 2 ^ 64 := Nat.mul_lt_mul'' a.isLt b.isLt
  rw [show mulHigh false a b = BitVec.ofInt 64 ((a.toNat * b.toNat : Nat) / 2 ^ 64) from extractHigh_ofInt _,
    BitVec.toNat_ofInt]
  omega

/-! ## Checksums -/

/-- The running checksum of the digits "123456789", before the final complement (R146). -/
def digitsChecksum (poly : BitVec 32) : BitVec 32 :=
  ([0x31#8, 0x32#8, 0x33#8, 0x34#8, 0x35#8, 0x36#8, 0x37#8, 0x38#8, 0x39#8] : List Byte).foldl
    (fun acc byte => crc32 acc 8 byte poly) 0xFFFFFFFF#32

theorem not_digitsChecksum_polyCrc32 : ~~~digitsChecksum polyCrc32 = 0xCBF43926#32 := by
  set_option maxRecDepth 20000 in decide

theorem not_digitsChecksum_polyCrc32c : ~~~digitsChecksum polyCrc32c = 0xE3069283#32 := by
  set_option maxRecDepth 20000 in decide

/-! ## Obligations -/

/-- Settles O33: the quotients as integers, by zero and out of range included. -/
theorem division : Obligations.Division := by
  unfold Obligations.Division
  intro s sf rm rn rd a b
  refine ⟨⟨_, uDiv _ a b, rfl, s.onlyRz_wrRz rd _, fun zero => ?_, fun _ => toNat_uDiv a b⟩,
    ⟨_, sDiv _ a b, rfl, s.onlyRz_wrRz rd _, fun zero => ?_, sDiv_of_overflow (width_pos sf),
      fun _ => toInt_sDiv (width_pos sf)⟩⟩
  · exact if_pos (BitVec.eq_of_toNat_eq zero)
  · exact if_pos (BitVec.toInt_inj.mp (zero.trans BitVec.toInt_zero.symm))

/-- Settles O35: each is one register write; the check values are computed. -/
theorem crcChecksums : Obligations.CrcChecksums := by
  unfold Obligations.CrcChecksums
  refine ⟨?runs, ?checkValues⟩
  case runs =>
    intro s rm rn rd acc e he
    simp only [List.mem_cons, List.not_mem_nil, or_false] at he
    obtain rfl | rfl | rfl | rfl | rfl | rfl | rfl | rfl := he <;> exact exec_onlyRz rfl
  case checkValues =>
    intro e he
    simp only [List.mem_cons, List.not_mem_nil, or_false] at he
    obtain rfl | rfl := he
    · exact not_digitsChecksum_polyCrc32
    · exact not_digitsChecksum_polyCrc32c

/-- Settles O36: each is one register write of an integer; the unsigned sums are stated as naturals. -/
theorem multiply : Obligations.Multiply := by
  unfold Obligations.Multiply
  intro s sf rm ra rn rd
  refine ⟨?madd, exec_onlyRz rfl, exec_onlyRz rfl, exec_onlyRz rfl, ?umaddl, exec_onlyRz rfl,
    ⟨_, _, rfl, s.onlyRz_wrRz rd _, toInt_mulHigh _ _⟩, ⟨_, _, rfl, s.onlyRz_wrRz rd _, toNat_mulHigh _ _⟩⟩
  case madd => exact BitVec.ofInt_natCast _ _ ▸ exec_onlyRz rfl
  case umaddl => exact BitVec.ofInt_natCast _ _ ▸ exec_onlyRz rfl

end Sys2Proof.Machine
end

section
/-! PROOFS. Add and subtract (R115, R170 to R188), and words of the spec's examples that decode. -/

namespace Sys2Proof.Machine

/-! ## Subtraction as addition of the complement (R170) -/

section Complement

variable {n : Nat} (a b : BitVec n) (c : Nat)

theorem toNat_not_add_succ : (~~~b).toNat + b.toNat + 1 = 2 ^ n := by
  have hb := b.isLt
  rw [BitVec.toNat_not]
  omega

theorem toInt_not_of_pos (hn : 0 < n) : (~~~b).toInt = -b.toInt - 1 := by
  have half : 2 ^ n = 2 * 2 ^ (n - 1) := by rw [← Nat.pow_succ', Nat.succ_eq_add_one, Nat.sub_add_cancel hn]
  have complement := toNat_not_add_succ b
  rw [BitVec.toInt_eq_toNat_cond, BitVec.toInt_eq_toNat_cond]
  split_ifs <;> omega

/-- Adding the complement adds `2 ^ n` more than the difference, which is lost modulo `2 ^ n`. -/
theorem sumOf_not : sumOf n a (~~~b) c = differenceOf n a b c := by
  have complement := toNat_not_add_succ b
  have sum : ((a.toNat + (~~~b).toNat + c : Nat) : Int) = a.toNat - b.toNat - 1 + c + (2 ^ n : Nat) := by omega
  apply BitVec.eq_of_toInt_eq
  rw [sumOf, differenceOf, ← BitVec.ofInt_natCast, sum, BitVec.toInt_ofInt, BitVec.toInt_ofInt,
    Int.add_bmod_right]

/-- The carry out of adding the complement is no borrow; the signed overflows are the same. -/
theorem sumFlags_not (hn : 0 < n) : sumFlags n a (~~~b) c = differenceFlags n a b c := by
  have complement := toNat_not_add_succ b
  have noBorrow : 2 ^ n ≤ a.toNat + (~~~b).toNat + c ↔ b.toNat + 1 ≤ a.toNat + c := by omega
  have signed : a.toInt + (~~~b).toInt + c = a.toInt - b.toInt - 1 + c := by rw [toInt_not_of_pos b hn]; omega
  rw [sumFlags, differenceFlags, sumOf_not, signed, decide_eq_decide.mpr noBorrow]

theorem addSub_add (hn : 0 < n) (carry : Bool) :
    addSub n a b false carry = (sumOf n a b carry.toNat, sumFlags n a b carry.toNat) :=
  addWithCarry_eq hn a b carry

theorem addSub_sub (hn : 0 < n) (carry : Bool) :
    addSub n a b true carry = (differenceOf n a b carry.toNat, differenceFlags n a b carry.toNat) := by
  rw [← sumOf_not, ← sumFlags_not a b _ hn]
  exact addWithCarry_eq hn a (~~~b) carry

end Complement

/-- The immediate as an integer: times 4096 when it is shifted (R115). -/
theorem addSubImmediate_eq (n : Nat) (sh : Bool) (imm12 : BitVec 12) :
    addSubImmediate n sh imm12 = BitVec.ofNat n (imm12.toNat * if sh then 4096 else 1) := by
  have factor : (if sh then 4096 else 1) = 2 ^ (if sh then 12 else 0) := by cases sh <;> rfl
  rw [factor, BitVec.ofNat_mul, ofNat_two_pow, BitVec.ofNat_toNat, ← BitVec.shiftLeft_eq_mul_twoPow, addSubImmediate]

/-! ## Where the result goes (R171, R172) -/

section Destinations

variable {i : Instr} {s : State} {n : Nat} {rd : RegNum} {r : BitVec n × Nzcv} {v : BitVec n} {f : Nzcv}

theorem exec_onlyRz_of_result (result : r = (v, f)) (run : exec i s = .next (s.wrRz rd r.1)) :
    ∃ t, exec i s = .next t ∧ s.OnlyRz t rd v := by
  subst result
  exact exec_onlyRz run

theorem exec_onlyRsp_of_result (result : r = (v, f)) (run : exec i s = .next (s.wrRsp rd r.1)) :
    ∃ t, exec i s = .next t ∧ s.OnlyRsp t rd v := by
  subst result
  exact ⟨_, run, s.onlyRsp_wrRsp rd v⟩

theorem exec_rzAndFlags_of_result (result : r = (v, f)) (run : exec i s = .next (s.wrRzFlags rd r)) :
    ∃ t, exec i s = .next t ∧ s.RzAndFlags t rd v f := by
  subst result
  exact ⟨_, run, s.rzAndFlags rd v f⟩

end Destinations

end Sys2Proof.Machine

namespace Sys2Proof.Laws

open Sys2Proof.Machine

/-! ## Obligations -/

/-- Settles O22: the immediate is an integer, a difference the sum with the complement. -/
theorem addSubImmediate : Obligations.AddSubImmediate := by
  unfold Obligations.AddSubImmediate
  intro s sf sh imm12 rn rd a b
  have sum := addSub_add a b (width_pos sf) false
  have difference := addSub_sub a b (width_pos sf) true
  rw [show b = Machine.addSubImmediate (width sf) sh imm12 from (addSubImmediate_eq ..).symm] at sum difference ⊢
  exact ⟨exec_onlyRsp_of_result sum rfl, exec_rzAndFlags_of_result sum rfl,
    exec_onlyRsp_of_result difference rfl, exec_rzAndFlags_of_result difference rfl⟩

/-- Settles O23: with such a shift the instruction is well formed and runs. -/
theorem addSubShifted : Obligations.AddSubShifted := by
  unfold Obligations.AddSubShifted
  intro s sf ty rm imm6 rn rd notRor inside a b
  have wf : (decide (ty ≠ .ror) && amountInRange sf imm6) = true := by
    rw [decide_eq_true notRor, amountInRange_of_lt inside, Bool.and_self]
  have sum := addSub_add a b (width_pos sf) false
  have difference := addSub_sub a b (width_pos sf) true
  exact ⟨exec_onlyRz_of_result sum (whenWellFormed_pos wf), exec_rzAndFlags_of_result sum (whenWellFormed_pos wf),
    exec_onlyRz_of_result difference (whenWellFormed_pos wf),
    exec_rzAndFlags_of_result difference (whenWellFormed_pos wf)⟩

/-- Settles O24: with such a shift the instruction is well formed and runs. -/
theorem addSubExtended : Obligations.AddSubExtended := by
  unfold Obligations.AddSubExtended
  intro s sf rm ty imm3 rn rd inside a b
  have wf : decide (imm3.toNat ≤ 4) = true := decide_eq_true inside
  have sum := addSub_add a b (width_pos sf) false
  have difference := addSub_sub a b (width_pos sf) true
  exact ⟨exec_onlyRsp_of_result sum (whenWellFormed_pos wf), exec_rzAndFlags_of_result sum (whenWellFormed_pos wf),
    exec_onlyRsp_of_result difference (whenWellFormed_pos wf),
    exec_rzAndFlags_of_result difference (whenWellFormed_pos wf)⟩

/-- Settles O25: the carry in is the C flag of the state before. -/
theorem addSubCarry : Obligations.AddSubCarry := by
  unfold Obligations.AddSubCarry
  intro s sf rm rn rd a b c
  have sum := addSub_add a b (width_pos sf) s.nzcv.c
  have difference := addSub_sub a b (width_pos sf) s.nzcv.c
  exact ⟨exec_onlyRz_of_result sum rfl, exec_rzAndFlags_of_result sum rfl,
    exec_onlyRz_of_result difference rfl, exec_rzAndFlags_of_result difference rfl⟩

/-- Settles O14: the decoder, computed on each of the fifteen words. -/
theorem decodeWords : Obligations.DecodeWords := by
  unfold Obligations.DecodeWords
  decide

end Sys2Proof.Laws
end

section
/-! PROOFS. The logical instructions with a shifted register (R200, R202 to R209), and move wide (R117, R214
to R216). -/

namespace Sys2Proof.Machine

/-! ## Logical, shifted register -/

/-- An instruction whose meaning is a write in zero-register mode and of the flags of what it writes (R200). -/
theorem exec_rzAndLogicalFlags {i : Instr} {s : State} {n : Nat} {rd : RegNum} {v : BitVec n}
    (run : exec i s = .next (s.wrRzLogicalFlags rd v)) :
    ∃ t, exec i s = .next t ∧ s.RzAndFlags t rd v (flagsOf n v false false) :=
  ⟨_, run, s.rzAndFlags_wrRzLogicalFlags rd v⟩

/-! ## Move wide -/

/-- A halfword that starts inside the width lies inside it, and the format has its position (R117). -/
theorem halfwordInRange_of_lt {sf : Bool} {hw : BitVec 2} (inside : 16 * hw.toNat < width sf) :
    (sf || decide (hw.toNat < 2)) = true := by
  cases sf with
  | false =>
    have : hw.toNat < 2 := by simp only [width] at inside; omega
    exact decide_eq_true this
  | true => rfl

section MoveWide

variable {n : Nat} (hw : BitVec 2) (imm16 : BitVec 16)

/-- The immediate as an integer (R117). -/
theorem moveWideImmediate_eq :
    moveWideImmediate n hw imm16 = BitVec.ofNat n (imm16.toNat * 2 ^ (16 * hw.toNat)) := by
  rw [BitVec.ofNat_mul, ofNat_two_pow, BitVec.ofNat_toNat, ← BitVec.shiftLeft_eq_mul_twoPow, moveWideImmediate,
    moveWidePos]

/-- The bits of the immediate: its halfword, and zeros around it (R117). -/
theorem getLsbD_moveWideImmediate {i : Nat} (hi : i < n) : (moveWideImmediate n hw imm16).getLsbD i =
    (decide (16 * hw.toNat ≤ i) && imm16.getLsbD (i - 16 * hw.toNat)) := by
  simp [moveWideImmediate, moveWidePos, hi, ← decide_not]

/-- MOVK puts the halfword in place of the one of `old` (R216). -/
theorem getLsbD_movk (old : BitVec n) {i : Nat} (hi : i < n) :
    ((old &&& ~~~moveWideImmediate n hw 0xFFFF#16) ||| moveWideImmediate n hw imm16).getLsbD i =
      if 16 * hw.toNat ≤ i ∧ i < 16 * hw.toNat + 16 then imm16.getLsbD (i - 16 * hw.toNat) else old.getLsbD i := by
  have ones (j : Nat) : (0xFFFF#16).getLsbD j = decide (j < 16) := BitVec.getLsbD_allOnes
  simp only [BitVec.getLsbD_or, BitVec.getLsbD_and, BitVec.getLsbD_not, hi, decide_true, Bool.true_and,
    getLsbD_moveWideImmediate, ones]
  split
  case isTrue h =>
    have inHalfword : i - 16 * hw.toNat < 16 := by omega
    simp [h.1, inHalfword]
  case isFalse h =>
    by_cases above : 16 * hw.toNat ≤ i
    · have past : 16 ≤ i - 16 * hw.toNat := by omega
      simp [past]
    · simp [above]

end MoveWide

/-! ## Obligations -/

/-- Settles O26: with such an amount the instruction is well formed, and each is one register write, ANDS
and BICS then one of the flags. -/
theorem logicalShifted : Obligations.LogicalShifted := by
  unfold Obligations.LogicalShifted
  intro s sf ty rm imm6 rn rd inside a b
  have wf : amountInRange sf imm6 = true := amountInRange_of_lt inside
  refine ⟨fun e he => ?plain, fun e he => ?flags⟩
  case plain =>
    simp only [List.mem_cons, List.not_mem_nil, or_false] at he
    obtain rfl | rfl | rfl | rfl | rfl | rfl := he <;> exact exec_onlyRz (whenWellFormed_pos wf)
  case flags =>
    simp only [List.mem_cons, List.not_mem_nil, or_false] at he
    obtain rfl | rfl := he <;> exact exec_rzAndLogicalFlags (whenWellFormed_pos wf)

/-- Settles O28: with such a position the instruction is well formed, and each is one register write. -/
theorem moveWide : Obligations.MoveWide := by
  unfold Obligations.MoveWide
  intro s sf hw imm16 rd inside v
  have wf : (sf || decide (hw.toNat < 2)) = true := halfwordInRange_of_lt inside
  rw [show v = moveWideImmediate (width sf) hw imm16 from (moveWideImmediate_eq hw imm16).symm]
  exact ⟨exec_onlyRz (whenWellFormed_pos wf), exec_onlyRz (whenWellFormed_pos wf),
    _, _, whenWellFormed_pos wf, s.onlyRz_wrRz rd _, fun i hi => getLsbD_movk hw imm16 _ hi⟩

end Sys2Proof.Machine
end

section
/-! PROOFS. Conditional compare and select (R230 to R239). -/

namespace Sys2Proof.Machine

/-! ## Conditional compare -/

/-- An instruction that is a conditional compare writes the flags alone: those of the sum or the difference,
or the immediate (R230). -/
theorem exec_onlyFlags_of_conditionalCompare {i : Instr} {s : State} {n : Nat} {a b v : BitVec n} {isCcmp : Bool}
    {cond : Cond} {nzcv : BitVec 4} {f : Nzcv} (compared : addSub n a b isCcmp isCcmp = (v, f))
    (run : exec i s = .next (s.conditionalCompare n a b isCcmp cond nzcv)) :
    ∃ t, exec i s = .next t ∧
      s.OnlyFlags t (if conditionHolds cond s.nzcv then f else Nzcv.ofBits nzcv) := by
  rw [State.conditionalCompare, compared] at run
  exact ⟨_, run, s.onlyFlags_setFlags _⟩

/-! ## Conditional select -/

/-- An instruction that is a conditional select writes `rd` alone: Rn, or what `f` makes of Rm (R235). -/
theorem exec_onlyRz_of_conditionalSelect {i : Instr} {s : State} {n : Nat} {cond : Cond} {rm rn rd : RegNum}
    {f : BitVec n → BitVec n} {other : BitVec n} (value : f (s.rz n rm) = other)
    (run : exec i s = .next (s.conditionalSelect n cond rm rn rd f)) :
    ∃ t, exec i s = .next t ∧ s.OnlyRz t rd (if conditionHolds cond s.nzcv then s.rz n rn else other) := by
  subst value
  exact exec_onlyRz run

theorem add_one_eq_ofNat {n : Nat} (x : BitVec n) : x + 1 = BitVec.ofNat n (x.toNat + 1) := by
  rw [BitVec.ofNat_add, BitVec.ofNat_toNat, BitVec.setWidth_eq]
  rfl

/-! ## Obligations -/

/-- Settles O29: each compares by the sum or the difference of its operands, the immediate zero-extended. -/
theorem conditionalCompare : Obligations.ConditionalCompare := by
  unfold Obligations.ConditionalCompare
  intro s sf rm imm5 cond rn nzcv a flags
  have sum (b : BitVec (width sf)) := addSub_add a b (width_pos sf) false
  have difference (b : BitVec (width sf)) := addSub_sub a b (width_pos sf) true
  rw [show BitVec.ofNat (width sf) imm5.toNat = imm5.setWidth (width sf) from BitVec.ofNat_toNat ..]
  refine ⟨?ccmnRegister, ?ccmpRegister, ?ccmnImmediate, ?ccmpImmediate⟩
  case ccmnRegister => exact exec_onlyFlags_of_conditionalCompare (sum _) rfl
  case ccmpRegister => exact exec_onlyFlags_of_conditionalCompare (difference _) rfl
  case ccmnImmediate => exact exec_onlyFlags_of_conditionalCompare (sum _) rfl
  case ccmpImmediate => exact exec_onlyFlags_of_conditionalCompare (difference _) rfl

/-- Settles O30: each is a conditional select; the negation of CSNEG is its natural by definition. -/
theorem conditionalSelect : Obligations.ConditionalSelect := by
  unfold Obligations.ConditionalSelect
  intro s sf rm cond rn rd m result
  refine ⟨?csel, ?csinc, ?csinv, ?csneg⟩
  case csel => exact exec_onlyRz_of_conditionalSelect rfl rfl
  case csinc => exact exec_onlyRz_of_conditionalSelect (add_one_eq_ofNat m) rfl
  case csinv => exact exec_onlyRz_of_conditionalSelect rfl rfl
  case csneg => exact exec_onlyRz_of_conditionalSelect rfl rfl

end Sys2Proof.Machine
end

section
/-! PROOFS. The immediate shifts as bitfield moves (R139, R254). -/

namespace Sys2Proof.Machine

/-! ## Fields that reach the end of the operand -/

section ShiftFields

variable {n k i : Nat} (v dst : BitVec n)

/-- The field from bit `k` to the top goes to bit 0, zero or the sign above it (R139). -/
theorem getLsbD_bitfield_toTop (ext : Bool) (hk : k < n) (hi : i < n) :
    (bitfield n v dst k (n - 1) true ext).getLsbD i = if i + k < n then v.getLsbD (i + k) else ext && v.msb := by
  have inField : i ≤ n - 1 - k ↔ i + k < n := by omega
  rw [getLsbD_bitfield_of_le v dst true ext (by omega) (by omega) hi, BitVec.msb_eq_getLsbD_last]
  simp only [inField, Bool.not_true, Bool.false_and, Bool.or_false]

/-- The field of the low `n - k` bits goes to bit `k`, zero below it (R139). -/
theorem getLsbD_bitfield_fromBottom (pos : 0 < k) (hk : k < n) (hi : i < n) :
    (bitfield n v dst (n - k) (n - 1 - k) true false).getLsbD i = (decide (k ≤ i) && v.getLsbD (i - k)) := by
  have inField : i ≤ k + (n - 1 - k) := by omega
  rw [getLsbD_bitfield_of_lt v dst true false (by omega) (by omega) hi, show n - (n - k) = k by omega, if_pos inField]
  by_cases below : i < k
  · simp [below]
  · simp [below, Nat.not_lt.mp below]

end ShiftFields

/-! ## Obligation -/

/-- Settles O19, bit by bit: the right shifts move the field at the top down, LSL the field at the bottom up. -/
theorem bitfieldShifts : Obligations.BitfieldShifts := by
  unfold Obligations.BitfieldShifts
  intro n v dst k hk
  refine ⟨BitVec.eq_of_getLsbD_eq fun i hi => ?lsr, BitVec.eq_of_getLsbD_eq fun i hi => ?asr,
    fun pos => BitVec.eq_of_getLsbD_eq fun i hi => ?lsl⟩ <;>
    rw [getLsbD_shift, decide_eq_true hi, Bool.true_and]
  case lsr =>
    rw [getLsbD_bitfield_toTop v dst false hk hi]
    split
    next => rfl
    next outside => rw [BitVec.getLsbD_of_ge v _ (Nat.not_lt.mp outside), Bool.false_and]
  case asr => rw [getLsbD_bitfield_toTop v dst true hk hi, Bool.true_and]
  case lsl => rw [getLsbD_bitfield_fromBottom v dst pos hk hi]

end Sys2Proof.Machine
end

section
/-! PROOFS. The variable shifts (R283 to R287). -/

namespace Sys2Proof.Machine

/-! ## The amount -/

/-- The width is a power of two, so the register modulo the width is its low bits, which X and W share (R283). -/
theorem State.shiftCount_width (s : State) (sf : Bool) (rm : RegNum) :
    s.shiftCount (width sf) rm = (s.rz 64 rm &&& BitVec.ofNat 64 (width sf - 1)).toNat := by
  rw [BitVec.toNat_and]
  cases sf with
  | false =>
    calc (s.rz 32 rm).toNat % 32
      _ = (s.rz 64 rm).toNat % 2 ^ 32 % 32 := by rw [← s.setWidth_rz rm, BitVec.toNat_setWidth]
      _ = (s.rz 64 rm).toNat % 32 := Nat.mod_mod_of_dvd _ (by decide)
      _ = (s.rz 64 rm).toNat &&& 31 := (Nat.and_two_pow_sub_one_eq_mod _ 5).symm
  | true => exact (Nat.and_two_pow_sub_one_eq_mod _ 6).symm

/-! ## Obligation -/

/-- Settles O34: each is one register write, of the operand shifted by the low bits of Rm. -/
theorem variableShifts : Obligations.VariableShifts := by
  unfold Obligations.VariableShifts
  intro s sf rm rn rd e he
  rw [← s.shiftCount_width sf rm]
  simp only [List.mem_cons, List.not_mem_nil, or_false] at he
  obtain rfl | rfl | rfl | rfl := he <;> exact exec_onlyRz rfl

end Sys2Proof.Machine
end

section
/-! PROOFS. BType (R338, R339): what an instruction hands to the next one, and that its own meaning is no BTI
violation. -/

namespace Sys2Proof.Machine

variable {s t : State} {i : Instr} {k : Result}

/-! ## The updates of a host service -/

theorem State.foldl_btypeNext {α : Type} {f : State → α → State} (hf : ∀ t a, (f t a).btypeNext = t.btypeNext)
    (l : List α) (s : State) : (l.foldl f s).btypeNext = s.btypeNext :=
  List.foldlRecOn l f (motive := fun t => t.btypeNext = s.btypeNext) rfl fun t h a _ => (hf t a).trans h

theorem State.freeX_btypeNext (s : State) (r : RegNum) : (s.freeX r).btypeNext = s.btypeNext :=
  s.wrRz_btypeNext r _

theorem State.freeZ_btypeNext (s : State) (r : RegNum) : (s.freeZ r).btypeNext = s.btypeNext := rfl
theorem State.freeTop_btypeNext (s : State) (r : RegNum) : (s.freeTop r).btypeNext = s.btypeNext := rfl
theorem State.freeP_btypeNext (s : State) (r : BitVec 4) : (s.freeP r).btypeNext = s.btypeNext := rfl
theorem State.freeNzcv_btypeNext (s : State) : s.freeNzcv.btypeNext = s.btypeNext := rfl
theorem State.freeSp_btypeNext (s : State) : s.freeSp.btypeNext = s.btypeNext := rfl
theorem State.freeFpcr_btypeNext (s : State) : s.freeFpcr.btypeNext = s.btypeNext := rfl
theorem State.freeMem_btypeNext (s : State) : s.freeMem.btypeNext = s.btypeNext := rfl

theorem State.afterPrintf_btypeNext (s : State) : s.afterPrintf.btypeNext = s.btypeNext := by
  rw [State.afterPrintf, freeNzcv_btypeNext, State.freeCallerSaved, foldl_btypeNext freeP_btypeNext,
    foldl_btypeNext freeTop_btypeNext, foldl_btypeNext freeZ_btypeNext, foldl_btypeNext freeX_btypeNext]

theorem State.afterRuntimeCall_btypeNext (s : State) : s.afterRuntimeCall.btypeNext = s.btypeNext := by
  rw [State.afterRuntimeCall, freeMem_btypeNext, freeFpcr_btypeNext, freeSp_btypeNext, freeNzcv_btypeNext,
    State.freeRegisters, foldl_btypeNext freeP_btypeNext, foldl_btypeNext freeZ_btypeNext,
    foldl_btypeNext freeX_btypeNext]

theorem State.withFeatureList_btypeNext {f : List Feature → List Feature} {r : State × Nat}
    (h : s.withFeatureList f = some r) : r.1.btypeNext = s.btypeNext := by
  obtain ⟨fs, -, rfl⟩ := Option.map_eq_some_iff.mp h
  rfl

/-- No host service touches the next BType: R392 names none that does. -/
theorem State.hostEffect_btypeNext {imm16 : BitVec 16} {service : HostService} {r : State × Nat}
    (h : s.hostEffect imm16 service = some r) : r.1.btypeNext = s.btypeNext := by
  cases service <;> simp only [State.hostEffect, Option.some.injEq, reduceCtorEq] at h
  case trace | log | saveFeatures | restoreFeatures => subst h; rfl
  case printf => subst h; exact s.afterPrintf_btypeNext
  case runtimeCall => subst h; exact s.afterRuntimeCall_btypeNext
  case setFeatures | enableFeatures | disableFeatures => exact State.withFeatureList_btypeNext h
  case unnamed =>
    obtain ⟨t, -, rfl⟩ := Option.map_eq_some_iff.mp h
    exact s.takeHost_btypeNext _

/-! ## What an instruction answers -/

/-- An answer that hands on the next BType it found, and that is no BTI violation. -/
inductive LeavesBType (s : State) : Result → Prop
  | next {t : State} (h : t.btypeNext = s.btypeNext) : LeavesBType s (.next t)
  | fault {f : Fault} (h : ∀ pc b, f ≠ .btiViolation pc b) : LeavesBType s (.fault f)
  | refused {q : Refusal} : LeavesBType s (.refused q)

namespace LeavesBType

theorem btypeNext (h : LeavesBType s (.next t)) : t.btypeNext = s.btypeNext := by
  cases h with
  | next h => exact h

theorem ne_btiViolation (h : LeavesBType s k) (pc : Word) (b : BType) : k ≠ .fault (.btiViolation pc b) := by
  rintro rfl
  cases h with
  | fault h => exact h pc b rfl

/-! ### Checks -/

theorem ite {p : Prop} [Decidable p] {a b : Result} (ha : LeavesBType s a) (hb : LeavesBType s b) :
    LeavesBType s (if p then a else b) := by
  split
  · exact ha
  · exact hb

theorem whenWellFormed (h : LeavesBType s k) : LeavesBType s (whenWellFormed i s k) := ite h (.fault nofun)

theorem logicalImmediate {n : Nat} {nBit : Bool} {imms immr : BitVec 6} {f : BitVec n → Result}
    (h : ∀ imm, LeavesBType s (f imm)) : LeavesBType s (logicalImmediate i s n nBit imms immr f) := by
  unfold Machine.logicalImmediate; split
  · exact h _
  · exact .fault nofun

theorem checkSp {rn : RegNum} (h : LeavesBType s k) : LeavesBType s (s.checkSp rn k) := ite (.fault nofun) h

theorem checkValid {addr : Word} {n : Nat} (h : LeavesBType s k) : LeavesBType s (s.checkValid addr n k) :=
  ite h (.fault nofun)

theorem checkPair {addr : Word} {n : Nat} (h : LeavesBType s k) : LeavesBType s (s.checkPair addr n k) :=
  checkValid (checkValid h)

theorem checkAtomic {rn : RegNum} {n : Nat} (h : LeavesBType s k) : LeavesBType s (s.checkAtomic rn n k) :=
  checkSp (ite (.fault nofun) (checkValid h))

theorem checkWriteback {c : Command} {rn rt : RegNum} (h : LeavesBType s k) :
    LeavesBType s (s.checkWriteback c rn rt k) := ite .refused h

theorem checkLoadPair {c : Command} {rt rt2 : RegNum} (h : LeavesBType s k) :
    LeavesBType s (s.checkLoadPair c rt rt2 k) := ite .refused h

theorem checkStatusRegister {c : Command} {rs rn rt : RegNum} (h : LeavesBType s k) :
    LeavesBType s (s.checkStatusRegister c rs rn rt k) := ite .refused h

/-! ### Updates -/

theorem wrRz {n : Nat} {rd : RegNum} {v : BitVec n} : LeavesBType s (.next (s.wrRz rd v)) :=
  .next (s.wrRz_btypeNext rd v)

theorem wrRsp {n : Nat} {rd : RegNum} {v : BitVec n} : LeavesBType s (.next (s.wrRsp rd v)) :=
  .next (s.wrRsp_btypeNext rd v)

theorem wrRzFlags {n : Nat} {rd : RegNum} {v : BitVec n} {f : Nzcv} :
    LeavesBType s (.next ((s.wrRz rd v).setFlags f)) := .next (s.wrRz_btypeNext rd v)

theorem branchIf {b : Bool} {target : Word} : LeavesBType s (.next (s.branchIf b target)) := by
  unfold State.branchIf; split <;> exact .next rfl

/-! ### Loads and stores -/

section Accesses

variable {c : Command} {rs rn rt rt2 : RegNum} {addr back : Word} {size n : Nat} {signed : Bool} {sz : AccessSize}

theorem load : LeavesBType s (s.load rn rt addr size signed n) := checkSp (checkValid wrRz)

theorem loadIndexed : LeavesBType s (s.loadIndexed c rn rt addr back size signed n) :=
  checkWriteback (checkSp (checkValid (.next (by simp [State.loadTo]))))

theorem loadPair : LeavesBType s (s.loadPair c rn rt rt2 addr size signed n) :=
  checkLoadPair (checkSp (checkPair (.next (by simp [State.loadPairTo]))))

theorem loadPairIndexed : LeavesBType s (s.loadPairIndexed c rn rt rt2 addr back size signed n) :=
  checkLoadPair (checkWriteback (checkWriteback (checkSp (checkPair (.next (by simp [State.loadPairTo]))))))

theorem loadLiteral : LeavesBType s (s.loadLiteral rt addr size signed n) := checkValid wrRz

theorem loadExclusive : LeavesBType s (s.loadExclusive sz rn rt) := checkAtomic (.next (by simp [State.loadTo]))

theorem loadAcquire : LeavesBType s (s.loadAcquire sz rn rt) := checkAtomic wrRz

theorem storeAt : LeavesBType s (s.storeAt rn rt addr size) := checkSp (checkValid (.next rfl))

theorem storeIndexed : LeavesBType s (s.storeIndexed c rn rt addr back size) :=
  checkWriteback (checkSp (checkValid (.next (by simp [State.storeFrom]))))

theorem storePair : LeavesBType s (s.storePair rn rt rt2 addr size) := checkSp (checkPair (.next rfl))

theorem storePairIndexed : LeavesBType s (s.storePairIndexed c rn rt rt2 addr back size) :=
  checkWriteback (checkWriteback (checkSp (checkPair (.next (by simp [State.storePairFrom])))))

theorem storeExclusive : LeavesBType s (s.storeExclusive c sz rs rn rt) :=
  checkStatusRegister (checkAtomic (ite (.next (by simp)) (.next (by simp))))

theorem storeRelease : LeavesBType s (s.storeRelease sz rn rt) := checkAtomic (.next rfl)

theorem compareAndSwap (acq rel : Bool) : LeavesBType s (execCas sz acq rs rel rn rt s) := by
  refine checkAtomic (.next ((State.wrRz_btypeNext ..).trans ?_))
  split <;> rfl

end Accesses

/-! ### System instructions -/

theorem hint {imm7 : BitVec 7} : LeavesBType s (execHint imm7 s) := by
  unfold execHint; split
  · exact .refused
  · exact .next rfl

theorem hlt {imm16 : BitVec 16} : LeavesBType s (execHlt imm16 s) := by
  unfold execHlt; split
  · next t words e =>
    obtain ⟨service, -, h⟩ := Option.bind_eq_some_iff.mp e
    exact .next (State.hostEffect_btypeNext h)
  · exact .fault nofun

end LeavesBType

/-! ## Register branches -/

theorem exec_br (rn : RegNum) (s : State) :
    exec (.br rn) s = .next ((s.branchTo (s.rz 64 rn)).setBTypeNext (s.brBType rn)) := rfl

theorem exec_blr (rn : RegNum) (s : State) :
    exec (.blr rn) s = .next ((s.link.branchTo (s.rz 64 rn)).setBTypeNext .branchAndLink) := rfl

/-- Every instruction but BR and BLR (R338), by the shared operation its meaning is made of. -/
theorem exec_leavesBType (hbr : ∀ rn, i ≠ .br rn) (hblr : ∀ rn, i ≠ .blr rn) (s : State) :
    LeavesBType s (exec i s) := by
  cases i
  case br rn => exact absurd rfl (hbr rn)
  case blr rn => exact absurd rfl (hblr rn)
  case adc | sbc | csel | csinc | csinv | csneg | adr | adrp | mrsNzcv | mrsFpcr | rbit | rev16 | revW | rev32
      | revX | clz | cls | udiv | sdiv | smulh | umulh | lslv | lsrv | asrv | rorv | crc32b | crc32h | crc32w
      | crc32x | crc32cb | crc32ch | crc32cw | crc32cx | madd | msub | smaddl | smsubl | umaddl | umsubl =>
    exact .wrRz
  case addShiftedRegister | subShiftedRegister | andShiftedRegister | bicShiftedRegister | orrShiftedRegister
      | ornShiftedRegister | eorShiftedRegister | eonShiftedRegister | movn | movz | movk | sbfm | bfm | ubfm | extr =>
    exact .whenWellFormed .wrRz
  case addImmediate | subImmediate => exact .wrRsp
  case addExtendedRegister | subExtendedRegister => exact .whenWellFormed .wrRsp
  case andImmediate | orrImmediate | eorImmediate => exact .logicalImmediate fun _ => .wrRsp
  case addsImmediate | subsImmediate | adcs | sbcs => exact .wrRzFlags
  case addsShiftedRegister | subsShiftedRegister | addsExtendedRegister | subsExtendedRegister
      | andsShiftedRegister | bicsShiftedRegister =>
    exact .whenWellFormed .wrRzFlags
  case andsImmediate => exact .logicalImmediate fun _ => .wrRzFlags
  case mrsRndr | mrsRndrrs => exact .next (s.wrRz_btypeNext ..)
  case bl => exact .next s.link_btypeNext
  case bCond | cbz | cbnz | tbz | tbnz => exact .branchIf
  case b | ret | ccmnRegister | ccmpRegister | ccmnImmediate | ccmpImmediate | msrNzcv | msrFpcr | clrex | nop
      | esb | csdb | bti | btiC | btiJ | btiJc | dsb | dmb | isb =>
    exact .next rfl
  case hint => exact .hint
  case sys => exact .ite (.fault nofun) (.next rfl)
  case hlt => exact .hlt
  case udf => exact .fault nofun
  case ldrbUnsignedOffset | ldurb | ldrhUnsignedOffset | ldurh | ldrWUnsignedOffset | ldurW | ldrXUnsignedOffset
      | ldurX | ldrsbXUnsignedOffset | ldursbX | ldrsbWUnsignedOffset | ldursbW | ldrshXUnsignedOffset | ldurshX
      | ldrshWUnsignedOffset | ldurshW | ldrswUnsignedOffset | ldursw => exact .load
  case ldrbRegisterOffset | ldrhRegisterOffset | ldrWRegisterOffset | ldrXRegisterOffset | ldrsbXRegisterOffset
      | ldrsbWRegisterOffset | ldrshXRegisterOffset | ldrshWRegisterOffset | ldrswRegisterOffset =>
    exact .whenWellFormed .load
  case ldrbPostIndex | ldrbPreIndex | ldrhPostIndex | ldrhPreIndex | ldrWPostIndex | ldrWPreIndex | ldrXPostIndex
      | ldrXPreIndex | ldrsbXPostIndex | ldrsbXPreIndex | ldrsbWPostIndex | ldrsbWPreIndex | ldrshXPostIndex
      | ldrshXPreIndex | ldrshWPostIndex | ldrshWPreIndex | ldrswPostIndex | ldrswPreIndex => exact .loadIndexed
  case ldpWOffset | ldpXOffset => exact .loadPair
  case ldpWPostIndex | ldpWPreIndex | ldpXPostIndex | ldpXPreIndex => exact .loadPairIndexed
  case ldrWLiteral | ldrXLiteral | ldrswLiteral => exact .loadLiteral
  case ldxr | ldaxr => exact .loadExclusive
  case ldar | ldapr => exact .loadAcquire
  case strbUnsignedOffset | sturb | strhUnsignedOffset | sturh | strWUnsignedOffset | sturW | strXUnsignedOffset
      | sturX => exact .storeAt
  case strbRegisterOffset | strhRegisterOffset | strWRegisterOffset | strXRegisterOffset =>
    exact .whenWellFormed .storeAt
  case strbPostIndex | strbPreIndex | strhPostIndex | strhPreIndex | strWPostIndex | strWPreIndex | strXPostIndex
      | strXPreIndex => exact .storeIndexed
  case stpWOffset | stpXOffset => exact .storePair
  case stpWPostIndex | stpWPreIndex | stpXPostIndex | stpXPreIndex => exact .storePairIndexed
  case stxr | stlxr => exact .storeExclusive
  case stlr => exact .storeRelease
  case cas _ acq _ rel _ _ => exact .compareAndSwap acq rel
  case swp | ldadd | ldclr | ldeor | ldset | ldsmax | ldsmin | ldumax | ldumin =>
    exact .checkAtomic (.next (State.wrRz_btypeNext ..))

/-- No instruction's own meaning is a BTI violation: BR and BLR complete in every state. -/
theorem exec_ne_btiViolation (i : Instr) (s : State) (pc : Word) (b : BType) :
    exec i s ≠ .fault (.btiViolation pc b) := by
  by_cases hbr : ∃ rn, i = .br rn
  · obtain ⟨rn, rfl⟩ := hbr
    rw [exec_br]; exact nofun
  · by_cases hblr : ∃ rn, i = .blr rn
    · obtain ⟨rn, rfl⟩ := hblr
      rw [exec_blr]; exact nofun
    · exact (exec_leavesBType (not_exists.mp hbr) (not_exists.mp hblr) s).ne_btiViolation pc b

end Sys2Proof.Machine
end

section
/-! PROOFS. The checks of a step in their order (R320, R467), the BTI check (R339), the next BType (R338) and the
register branches (R334 to R336). -/

namespace Sys2Proof.Machine

variable {s t : State} {k : Result} {i : Instr}

/-! ## The BTI check -/

/-- Outside guarded pages and under Default the check passes, and so it does for what may be landed on. -/
theorem State.btiCheck_pos {permits : Bool}
    (h : s.guardedPage s.pc = false ∨ s.btype = .default ∨ permits = true) : s.btiCheck permits k = k := by
  refine if_neg ?_
  rintro ⟨guarded, current, refuses⟩
  obtain h | h | h := h
  · exact Bool.false_ne_true (h.symm.trans guarded)
  · exact current h
  · exact Bool.false_ne_true (refuses.symm.trans h)

theorem State.btiCheck_neg {permits : Bool} (guarded : s.guardedPage s.pc = true) (current : s.btype ≠ .default)
    (refuses : permits = false) : s.btiCheck permits k = .fault (.btiViolation s.pc s.btype) :=
  if_pos ⟨guarded, current, refuses⟩

/-- The table of R339. -/
theorem btiPermits_iff {b : BType} : btiPermits i b = true ↔
    i = .btiJc ∨ (i = .btiC ∧ b ≠ .branchFromGuardedNotToIP) ∨ (i = .btiJ ∧ b ≠ .branchAndLink) ∨
      ∃ imm16, i = .hlt imm16 := by
  unfold btiPermits
  split
  case h_5 jc c j hlt =>
    refine iff_of_false Bool.false_ne_true ?_
    rintro (e | ⟨e, -⟩ | ⟨e, -⟩ | ⟨imm16, e⟩)
    exacts [jc e, c e, j e, hlt imm16 e]
  all_goals simp

theorem onNext_ne_fault {f : Fault} {g : State → State} (h : k ≠ .fault f) : onNext k g ≠ .fault f := by
  cases k with
  | next | refused => exact nofun
  | fault => exact h

/-! ## A step that fetches -/

section Fetch

variable (running : s.status = .running) (nonzero : s.pc ≠ endOfSimAddress)
include running nonzero

theorem step_of_misaligned (misaligned : s.pc.toNat % 4 ≠ 0) : step s = .fault (.pcAlignment s.pc) := by
  rw [step, State.beforeDecode, if_neg (not_not_intro running), if_neg nonzero, if_pos misaligned]; rfl

variable (aligned : s.pc.toNat % 4 = 0)
include aligned

/-- The check of the fetch address is the last before the word is decoded. -/
theorem State.beforeDecode_eq_checkValid : s.beforeDecode k = s.checkValid s.pc 4 k := by
  rw [State.beforeDecode, if_neg (not_not_intro running), if_neg nonzero, if_neg (not_not_intro aligned)]

theorem step_of_invalid (invalid : s.memValid s.pc 4 = false) : step s = .fault (.address s.pc s.pc) := by
  rw [step, State.beforeDecode_eq_checkValid running nonzero aligned, State.checkValid_neg invalid]

variable (valid : s.memValid s.pc 4 = true)
include valid

theorem State.beforeDecode_eq : s.beforeDecode k = k := by
  rw [State.beforeDecode_eq_checkValid running nonzero aligned, State.checkValid_pos valid]

theorem step_of_instr (h : decode s.fetchWord = .instr i) : step s = s.runInstr i := by
  rw [step, State.beforeDecode_eq running nonzero aligned valid, h]

theorem step_of_rejected {r : Reject} (h : decode s.fetchWord = .rejected r) :
    step s = s.runRejected s.fetchWord r := by
  rw [step, State.beforeDecode_eq running nonzero aligned valid, h]

theorem stepNative_eq (c : NativeCmd) : stepNative c s = s.runNative c :=
  State.beforeDecode_eq running nonzero aligned valid

end Fetch

/-- The end of the run comes before the checks of PC as an address (R320). -/
theorem step_of_endOfSim (running : s.status = .running) (zero : s.pc = endOfSimAddress) :
    step s = .next { s with status := .exited } := by
  rw [step, State.beforeDecode, if_neg (not_not_intro running), if_pos zero]

/-- Every rejection but unallocated comes after the BTI check, and no rejected word may be landed on (log 21). -/
theorem State.runRejected_btiViolation {word : BitVec 32} {r : Reject} (h : r ≠ .unallocated)
    (guarded : s.guardedPage s.pc = true) (current : s.btype ≠ .default) :
    s.runRejected word r = .fault (.btiViolation s.pc s.btype) := by
  cases r with
  | unallocated => exact absurd rfl h
  | unimplemented | pointerAuthentication => exact State.btiCheck_neg guarded current rfl

/-- With nothing to check it for, a well-formed command runs. -/
theorem State.runNative_eq {c : NativeCmd} (wf : c.wellFormed = true)
    (passes : s.guardedPage s.pc = false ∨ s.btype = .default) :
    s.runNative c = onNext (execNative c s.begin) fun t => t.retire (isMovprfx c) := by
  rw [State.runNative, whenNative, if_pos wf, State.btiCheck_pos (passes.imp_right .inl)]

/-! ## Branches -/

/-- The next BType is no part of what a branch is stated by. -/
theorem State.Branched.setBTypeNext {target : Word} (h : s.Branched t target) (b : BType) :
    s.Branched (t.setBTypeNext b) target where
  pc := h.pc
  pcModified := h.pcModified
  sp := h.sp
  flags := h.flags
  memory := h.memory.trans (.of rfl rfl rfl)
  units := h.units.trans ⟨rfl, rfl, rfl, rfl, rfl, rfl, rfl, rfl, rfl, rfl⟩

/-! ## Obligations -/

/-- Settles O6: the checks before the instruction pass, and what follows it is `State.retire`. -/
theorem stepRunsDecoded : Obligations.StepRunsDecoded := by
  unfold Obligations.StepRunsDecoded
  refine fun s running nonzero aligned valid => ⟨fun i hi passes => ?instr, fun c wf passes => ?native⟩
  case instr =>
    rw [step_of_instr running nonzero aligned valid hi, State.runInstr, State.btiCheck_pos passes]
    rfl
  case native =>
    rw [stepNative_eq running nonzero aligned valid, State.runNative_eq wf passes]
    rfl

/-- Settles O7, one check after the other. -/
theorem stepChecksInOrder : Obligations.StepChecksInOrder := by
  unfold Obligations.StepChecksInOrder
  refine fun s => ⟨step_of_not_running, step_of_endOfSim, step_of_misaligned, step_of_invalid,
    fun running nonzero aligned valid => ?_⟩
  have rejected {r : Reject} := step_of_rejected (r := r) running nonzero aligned valid
  refine ⟨fun h => ?unallocated, fun r h other guarded current => ?btiViolation, fun h passes => ?unimplemented,
    fun name h passes => ?pointerAuthentication⟩ <;> rw [rejected h]
  case unallocated => rfl
  case btiViolation => exact State.runRejected_btiViolation other guarded current
  case unimplemented => exact State.btiCheck_pos (passes.imp_right .inl)
  case pointerAuthentication => exact State.btiCheck_pos (passes.imp_right .inl)

/-- Settles O8: the check stops what the table does not permit, and nothing an instruction does itself is such
a fault. -/
theorem btiViolation : Obligations.BtiViolation := by
  unfold Obligations.BtiViolation
  intro s i running nonzero aligned valid hi permitted
  have permits : btiPermits i s.btype = true ↔ permitted := btiPermits_iff
  rw [step_of_instr running nonzero aligned valid hi, State.runInstr]
  refine ⟨fun ⟨guarded, current, refused⟩ => ?stops, fun passes pc b => ?runs⟩
  case stops => exact State.btiCheck_neg guarded current (Bool.eq_false_iff.mpr (mt permits.mp refused))
  case runs =>
    rw [State.btiCheck_pos (passes.imp_right (Or.imp_right permits.mpr))]
    exact onNext_ne_fault (exec_ne_btiViolation i s.begin pc b)

/-- Settles O11: retiring moves the next BType, which BR and BLR set and every other instruction leaves at
Default. -/
theorem nextBType : Obligations.NextBType := by
  unfold Obligations.NextBType
  intro s t i between nonzero hi ht
  obtain ⟨-, ⟨zero, -⟩ | ⟨j, u, -, hj, hu, rfl⟩⟩ := step_next ht
  · exact absurd zero nonzero
  · obtain rfl : i = j := Decoded.instr.inj (hi.symm.trans hj)
    refine ⟨rfl, ?_⟩
    rw [State.retire_btype]
    split
    next rn => rw [exec_br] at hu; cases hu; rfl
    next rn => rw [exec_blr] at hu; cases hu; rfl
    next hbr hblr =>
      have leaves := hu ▸ exec_leavesBType hbr hblr s.begin
      exact leaves.btypeNext.trans between

/-- Settles O39: each is a branch, BLR after the write of X30 and with the target read before it. -/
theorem registerBranches : Obligations.RegisterBranches := by
  unfold Obligations.RegisterBranches
  refine fun s rn => ⟨⟨_, exec_br rn s, ?br⟩, ⟨_, exec_blr rn s, ?blr⟩, ⟨_, rfl, ?ret⟩⟩
  case br => exact ⟨(s.branched_branchTo _).setBTypeNext _, .of rfl rfl, rfl⟩
  case blr =>
    exact ⟨(s.branched_link_branchTo _).setBTypeNext _, (s.wroteRz_wrRz 30#5 _).thenSameRegs (.of rfl rfl), rfl⟩
  case ret => exact ⟨s.branched_branchTo _, .of rfl rfl, rfl⟩

end Sys2Proof.Machine
end

section
/-! PROOFS. Ordinary loads and stores (R350 to R360): every form is its checks, then the transfer, then the
write-back of its mode. -/

namespace Sys2Proof.Machine

variable {s t : State} {c : Command} {k : Result} {rn rt rt2 : RegNum} {addr : Word} {back : Option Word}
  {size : Nat}

/-! ## Write-back (R351) -/

@[simp] theorem State.writeBack_mem (s : State) (rn : RegNum) (back : Option Word) :
    (s.writeBack rn back).mem = s.mem := by
  cases back with
  | none => rfl
  | some v => exact s.wrRsp_mem rn v

@[simp] theorem State.writeBack_nzcv (s : State) (rn : RegNum) (back : Option Word) :
    (s.writeBack rn back).nzcv = s.nzcv := by
  cases back with
  | none => rfl
  | some v => exact s.wrRsp_nzcv rn v

@[simp] theorem State.writeBack_localMonitor (s : State) (rn : RegNum) (back : Option Word) :
    (s.writeBack rn back).localMonitor = s.localMonitor := by
  cases back with
  | none => rfl
  | some v => exact s.wrRsp_localMonitor rn v

@[simp] theorem State.writeBack_globalMonitor (s : State) (rn : RegNum) (back : Option Word) :
    (s.writeBack rn back).globalMonitor = s.globalMonitor := by
  cases back with
  | none => rfl
  | some v => exact s.wrRsp_globalMonitor rn v

theorem State.sameButRegisters_writeBack (s : State) (rn : RegNum) (back : Option Word) :
    s.SameButRegisters (s.writeBack rn back) := by
  cases back with
  | none => exact .refl s
  | some v => exact s.sameButRegisters_wrRsp rn v

/-- Write-back reaches no register but the base. -/
theorem State.xReg_writeBack {j : Nat} (other : back = none ∨ rn = 31#5 ∨ j ≠ rn.toNat) :
    (s.writeBack rn back).xReg j = s.xReg j := by
  cases back with
  | none => rfl
  | some v => exact (s.wroteRsp_wrRsp rn v).others j (other.resolve_left nofun)

/-- A write in stack-pointer mode is read back in that mode (R26, R27). -/
theorem State.rsp_wrRsp (s : State) (rn : RegNum) (v : Word) : (s.wrRsp rn v).rsp 64 rn = v := by
  by_cases h : rn = 31#5
  · subst h
    rw [State.rsp_31, (s.wroteRsp_wrRsp _ v).destSp rfl, BitVec.setWidth_eq, BitVec.setWidth_eq]
  · rw [State.rsp_of_ne _ h, (s.wroteRsp_wrRsp rn v).dest h, BitVec.setWidth_eq, BitVec.setWidth_eq]

/-- A transfer that leaves SP alone, then the write-back. -/
theorem State.wroteBack_writeBack (sp : t.sp = s.sp) (rn : RegNum) (back : Option Word) :
    s.WroteBack (t.writeBack rn back) rn back := by
  cases back with
  | none => exact ⟨nofun, fun _ => sp⟩
  | some v =>
    refine ⟨?_, fun h => ((t.wroteRsp_wrRsp rn v).sp (h.resolve_left nofun)).trans sp⟩
    rintro _ ⟨⟩
    exact t.rsp_wrRsp rn v

/-- What a load transfers is not overwritten by the write-back. -/
theorem noOverlap.xReg_writeBack (h : noOverlap back rn rt) : (s.writeBack rn back).xReg rt.toNat = s.xReg rt.toNat :=
  State.xReg_writeBack (h.imp_right fun h => h.symm.imp_right fun ne => BitVec.toNat_ne.mp ne.symm)

/-- Write-back after a store touches neither flags, PC nor units. -/
theorem State.SameButMemory.writeBack (h : s.SameButMemory t) (rn : RegNum) (back : Option Word) :
    s.SameButMemory (t.writeBack rn back) := by
  obtain ⟨pc, -, units⟩ := t.sameButRegisters_writeBack rn back
  exact ⟨h.pc.trans pc, (t.writeBack_nzcv rn back).trans h.flags, h.units.trans units⟩

/-! ## Checks in the order of R467 -/

/-- The overlap check of a mode: only one with write-back has it (R358, U3). -/
def State.checkBack (s : State) (c : Command) (rn rt : RegNum) (back : Option Word) (k : Result) : Result :=
  match back with
  | none => k
  | some _ => s.checkWriteback c rn rt k

theorem State.checkBack_pos (h : noOverlap back rn rt) : s.checkBack c rn rt back k = k := by
  cases back with
  | none => rfl
  | some v => exact State.checkWriteback_pos (h.resolve_left nofun)

theorem State.checkBack_neg (h : ¬noOverlap back rn rt) :
    s.checkBack c rn rt back k = .refused (.writebackOverlap s.pc c) := by
  cases back with
  | none => exact absurd (.inl rfl) h
  | some v => exact State.checkWriteback_neg (mt .inr h)

/-- The checks of a single-register access. -/
def State.checkSingle (s : State) (c : Command) (rn rt : RegNum) (addr : Word) (back : Option Word) (size : Nat)
    (k : Result) : Result :=
  s.checkBack c rn rt back <| s.checkSp rn <| s.checkValid addr size k

theorem State.checkSingle_pos (apart : noOverlap back rn rt) (base : s.baseOk rn)
    (valid : s.memValid addr size = true) : s.checkSingle c rn rt addr back size k = k := by
  rw [State.checkSingle, State.checkBack_pos apart, State.checkSp_pos base, State.checkValid_pos valid]

/-- The checks of a pair access, after that of the two registers loaded (R359). -/
def State.checkPairAccess (s : State) (c : Command) (rn rt rt2 : RegNum) (addr : Word) (back : Option Word)
    (size : Nat) (k : Result) : Result :=
  s.checkBack c rn rt back <| s.checkBack c rn rt2 back <| s.checkSp rn <| s.checkPair addr size k

section Apart

variable (apart : noOverlap back rn rt) (apart2 : noOverlap back rn rt2)
include apart apart2

theorem State.checkPairAccess_of_apart : s.checkPairAccess c rn rt rt2 addr back size k =
    s.checkSp rn (s.checkPair addr size k) := by
  rw [State.checkPairAccess, State.checkBack_pos apart, State.checkBack_pos apart2]

theorem State.checkPairAccess_pos (base : s.baseOk rn) (valid : s.memValid addr size = true)
    (valid2 : s.memValid (pairSecond addr size) size = true) :
    s.checkPairAccess c rn rt rt2 addr back size k = k := by
  rw [State.checkPairAccess_of_apart apart apart2, State.checkSp_pos base, State.checkPair,
    State.checkValid_pos valid, State.checkValid_pos valid2]

end Apart

theorem State.checkPairAccess_overlap (h : ¬(noOverlap back rn rt ∧ noOverlap back rn rt2)) :
    s.checkPairAccess c rn rt rt2 addr back size k = .refused (.writebackOverlap s.pc c) := by
  unfold State.checkPairAccess
  by_cases apart : noOverlap back rn rt
  · rw [State.checkBack_pos apart, State.checkBack_neg fun apart2 => h ⟨apart, apart2⟩]
  · rw [State.checkBack_neg apart]

/-! ## Single registers -/

/-- Whether a load extends by the sign (R355). -/
def kindSigned : LdStKind → Bool
  | .ldrsbX | .ldrsbW | .ldrshX | .ldrshW | .ldrsw => true
  | _ => false

/-- The width of the register transferred (R355). -/
def kindRegWidth : LdStKind → Nat
  | .ldrsbX | .ldrshX | .ldrsw | .strX | .ldrX => 64
  | _ => 32

/-- The transfer of a kind, after the checks and before the write-back (R356). -/
def State.transfer (s : State) (kind : LdStKind) (addr : Word) (rt : RegNum) : State :=
  if kindStores kind then s.storeFrom addr (kindBytes kind) rt
  else s.loadTo addr (kindBytes kind) (kindSigned kind) (kindRegWidth kind) rt

/-- Every single-register access, at the address and with the write-back that its mode gives. -/
theorem exec_singleOf {mode : AddrMode} (kind : LdStKind) (wf : mode.wellFormed = true)
    (at_mode : s.modeAddress rn (kindBytes kind) mode = (addr, back)) :
    exec (singleOf kind rn rt mode) s =
      s.checkSingle (.instr (singleOf kind rn rt mode)) rn rt addr back (kindBytes kind)
        (.next ((s.transfer kind addr rt).writeBack rn back)) := by
  obtain ⟨rfl, rfl⟩ := Prod.ext_iff.mp at_mode
  cases mode with
  | unsigned | unscaled | post | pre => cases kind <;> rfl
  | register => cases kind <;> exact whenWellFormed_pos wf

/-- A W value is zero-extended to the register (R23, R356). -/
theorem setWidth_loadExtend (kind : LdStKind) (v : BitVec (8 * kindBytes kind)) :
    (loadExtend (kindRegWidth kind) (kindSigned kind) v).setWidth 64 = kindLoaded kind v := by
  cases kind with
  | strb | ldrb => exact setWidth_accessRegWidth .b v
  | strh | ldrh => exact setWidth_accessRegWidth .h v
  | strW | ldrW => exact setWidth_accessRegWidth .w v
  | strX | ldrX => exact setWidth_accessRegWidth .x v
  | ldrsbX | ldrshX | ldrsw => exact BitVec.setWidth_eq _
  | ldrsbW | ldrshW => rfl

/-- A load is one register write, of the extended value. -/
theorem State.onlyRz_transfer {kind : LdStKind} (loads : kindStores kind = false) (s : State) (addr : Word)
    (rt : RegNum) : s.OnlyRz (s.transfer kind addr rt) rt (kindLoaded kind (s.memRead addr (kindBytes kind))) := by
  rw [State.transfer, loads]
  obtain ⟨wrote, rest⟩ := s.onlyRz_wrRz rt
    (loadExtend (kindRegWidth kind) (kindSigned kind) (s.memRead addr (kindBytes kind)))
  exact ⟨wrote.widen (by rw [setWidth_loadExtend, BitVec.setWidth_eq]), rest⟩

theorem State.transfer_of_stores {kind : LdStKind} (stores : kindStores kind = true) (s : State) (addr : Word)
    (rt : RegNum) : s.transfer kind addr rt = s.storeFrom addr (kindBytes kind) rt := if_pos stores

/-- Settles O44: the checks pass, and a load is one register write before the write-back of another register. -/
theorem singleLoads : Obligations.SingleLoads := by
  unfold Obligations.SingleLoads
  constructor
  · intro s rn rm k imm12 imm9 ext scaled base offset
    refine ⟨?_, rfl, rfl, rfl, ?_⟩
    · rw [State.modeAddress, State.unsignedAddress, BitVec.ofNat_mul, BitVec.ofNat_toNat]; rfl
    · rw [State.modeAddress, State.registerAddress, Nat.log2_two_pow]; rfl
  · intro s kind mode rn rt loads wf base addr back apart valid
    have at_mode : s.modeAddress rn (kindBytes kind) mode = (addr, back) := rfl
    obtain ⟨wrote, flags, rest⟩ := s.onlyRz_transfer loads addr rt
    refine ⟨_, (exec_singleOf kind wf at_mode).trans (State.checkSingle_pos apart base valid), fun ne => ?_,
      State.wroteBack_writeBack wrote.sp rn back, fun j hj hj' => ?_, (State.writeBack_nzcv _ rn back).trans flags,
      rest.trans (State.sameButRegisters_writeBack _ rn back)⟩
    · exact apart.xReg_writeBack.trans ((wrote.dest ne).trans (BitVec.setWidth_eq _))
    · exact (State.xReg_writeBack hj').trans (wrote.others j hj)

/-- Settles O45: the checks pass, and a store writes no register but the base written back. -/
theorem singleStores : Obligations.SingleStores := by
  unfold Obligations.SingleStores
  intro s kind mode rn rt hm stores wf base addr back apart valid
  have at_mode : s.modeAddress rn (kindBytes kind) mode = (addr, back) := rfl
  have run := (exec_singleOf kind wf at_mode).trans (State.checkSingle_pos apart base valid)
  rw [State.transfer_of_stores stores] at run
  have fits : kindBytes kind ≤ 2 ^ 64 := le_of_add_le_right (State.memValid_le valid)
  exact ⟨_, run, (s.stored_memWrite addr _ _ hm fits).congr (State.writeBack_mem _ rn back),
    State.writeBack_localMonitor _ rn back, State.writeBack_globalMonitor _ rn back,
    State.wroteBack_writeBack rfl rn back, fun j hj => State.xReg_writeBack hj,
    (s.sameButMemory_store addr _ _).writeBack rn back⟩

/-! ## Pairs -/

/-- The element size of a pair (R359). -/
def pairBytes (sf : Bool) : Nat := if sf then 8 else 4

/-- The transfer of a pair, after the checks and before the write-back (R359). -/
def State.pairTransfer (s : State) (store : Bool) (addr : Word) (size : Nat) (rt rt2 : RegNum) : State :=
  if store then s.storePairFrom addr size rt rt2 else s.loadPairTo addr size false (8 * size) rt rt2

/-- Every pair access that does not load one register twice, at the address and with the write-back that its
mode gives. -/
theorem exec_pairOf {store : Bool} (sf : Bool) (mode : PairMode) (distinct : store = true ∨ rt ≠ rt2)
    (at_mode : s.pairModeAddress rn (pairBytes sf) mode = (addr, back)) :
    exec (pairOf store sf rt2 rn rt mode) s =
      s.checkPairAccess (.instr (pairOf store sf rt2 rn rt mode)) rn rt rt2 addr back (pairBytes sf)
        (.next ((s.pairTransfer store addr (pairBytes sf) rt rt2).writeBack rn back)) := by
  obtain ⟨rfl, rfl⟩ := Prod.ext_iff.mp at_mode
  cases store with
  | true => cases mode <;> cases sf <;> rfl
  | false =>
    have different := distinct.resolve_left nofun
    cases mode <;> cases sf <;> exact State.checkLoadPair_pos different

/-- A pair load of one register twice is refused before anything else (R359, U4). -/
theorem exec_ldp_same (sf : Bool) (mode : PairMode) (rn rt : RegNum) :
    exec (pairOf false sf rt rn rt mode) s =
      .refused (.loadPairSameRegister s.pc (.instr (pairOf false sf rt rn rt mode))) := by
  cases mode <;> cases sf <;> exact if_pos rfl

/-- The pair loads are two register writes, of two consecutive elements. -/
theorem State.wroteRz_loadPairTo (s : State) (addr : Word) (size : Nat) (rt rt2 : RegNum) :
    let first := s.wrRz rt (s.memRead addr size)
    s.WroteRz first rt (s.memRead addr size) ∧
    first.WroteRz (s.loadPairTo addr size false (8 * size) rt rt2) rt2 (s.memRead (pairSecond addr size) size) := by
  simp only [State.loadPairTo, loadExtend, Bool.false_eq_true, if_false, BitVec.setWidth_eq]
  exact ⟨s.wroteRz_wrRz rt _, State.wroteRz_wrRz _ rt2 _⟩

theorem State.sameButRegisters_loadPairTo (s : State) (addr : Word) (size n : Nat) (signed : Bool) (rt rt2 : RegNum) :
    s.SameButRegisters (s.loadPairTo addr size signed n rt rt2) :=
  (s.sameButRegisters_wrRz rt _).trans (State.sameButRegisters_wrRz _ rt2 _)

theorem State.sameButMemory_storePairFrom (s : State) (addr : Word) (size : Nat) (rt rt2 : RegNum) :
    s.SameButMemory (s.storePairFrom addr size rt rt2) :=
  ⟨⟨rfl, rfl, rfl⟩, rfl, ⟨rfl, rfl, rfl, rfl, rfl, rfl, rfl, rfl, rfl, rfl⟩⟩

/-- Settles O46: the checks pass, and the two register writes and the write-back are of three registers. -/
theorem pairLoads : Obligations.PairLoads := by
  unfold Obligations.PairLoads
  constructor
  · intro s rn size imm7 base offset
    have address : s.pairAddress rn imm7 size = offset := by
      rw [State.pairAddress, ← BitVec.ofInt_natCast, BitVec.signExtend, ← BitVec.ofInt_mul]; rfl
    exact ⟨congrArg (·, none) address, congrArg (base, some ·) address, congrArg (fun a => (a, some a)) address⟩
  · intro s sf mode rt2 rn rt size addr back different base apart apart2 valid valid2
    have at_mode : s.pairModeAddress rn (pairBytes sf) mode = (addr, back) := rfl
    have run := (exec_pairOf (store := false) sf mode (.inr different) at_mode).trans
      (State.checkPairAccess_pos apart apart2 base valid valid2)
    obtain ⟨wrote, wrote2⟩ := s.wroteRz_loadPairTo addr size rt rt2
    have rest := s.sameButRegisters_loadPairTo addr size (8 * size) false rt rt2
    have flags : (s.loadPairTo addr size false (8 * size) rt rt2).nzcv = s.nzcv := by simp [State.loadPairTo]
    refine ⟨_, run, fun ne => ?_, fun ne => ?_, State.wroteBack_writeBack (wrote2.sp.trans wrote.sp) rn back,
      fun j hj hj2 hj' => ?_, (State.writeBack_nzcv _ rn back).trans flags,
      rest.trans (State.sameButRegisters_writeBack _ rn back)⟩
    · have kept := wrote2.others rt.toNat (.inr (BitVec.toNat_ne.mp different))
      exact apart.xReg_writeBack.trans (kept.trans (wrote.dest ne))
    · exact apart2.xReg_writeBack.trans (wrote2.dest ne)
    · exact (State.xReg_writeBack hj').trans ((wrote2.others j hj2).trans (wrote.others j hj))

/-- The elements of a pair are consecutive, so no byte is of both (R359). -/
theorem byteAddress_ne_pairSecond {j k : Nat} (fits : size ≤ 2 ^ 63) (hj : j < size) (hk : k < size) :
    byteAddress addr j ≠ byteAddress (pairSecond addr size) k := by
  have follows : byteAddress (pairSecond addr size) k = byteAddress addr (size + k) := by
    rw [byteAddress, byteAddress, pairSecond, BitVec.add_assoc, BitVec.ofNat_add]
  intro same
  have := byteAddress_inj (by omega) (by omega) (same.trans follows)
  omega

/-- Settles O47: the second store touches no byte of the first. -/
theorem pairStores : Obligations.PairStores := by
  unfold Obligations.PairStores
  intro s sf mode rt2 rn rt size addr second back hm base apart apart2 valid valid2
  have at_mode : s.pairModeAddress rn (pairBytes sf) mode = (addr, back) := rfl
  have run := (exec_pairOf (store := true) sf mode (.inl rfl) at_mode).trans
    (State.checkPairAccess_pos apart apart2 base valid valid2)
  have fits : size ≤ 8 := by cases sf <;> decide
  have stored := s.stored_memWrite addr size (s.rz 64 rt) hm (by omega)
  have stored2 := (s.memWrite addr size (s.rz 64 rt)).stored_memWrite second size (s.rz 64 rt2)
    (Memory.wf_write hm addr _ size) (by omega)
  have bytes := State.byteAt_congr (State.writeBack_mem (s.storePairFrom addr size rt rt2) rn back)
  refine ⟨_, run, fun k hk => (bytes _).trans ?_, fun k hk => (bytes _).trans (stored2.bytes k hk),
    fun a ha => (bytes a).trans ?_, State.writeBack_localMonitor _ rn back, State.writeBack_globalMonitor _ rn back,
    State.wroteBack_writeBack rfl rn back, fun j hj => State.xReg_writeBack hj,
    State.SameButMemory.writeBack (s.sameButMemory_storePairFrom addr size rt rt2) rn back⟩
  · exact (stored2.others _ fun j hj => byteAddress_ne_pairSecond (by omega) hk hj).trans (stored.bytes k hk)
  · exact (stored2.others a fun k hk => (ha k hk).2).trans (stored.others a fun k hk => (ha k hk).1)

/-! ## Literals -/

/-- Settles O48: the address counts words from PC, and no check but that of the address stands before the load. -/
theorem literalLoads : Obligations.LiteralLoads := by
  unfold Obligations.LiteralLoads
  intro s imm19 rt addr
  have address : s.pcOffset imm19 = addr := s.pcOffset_eq imm19 (by decide)
  have runs {n m : Nat} {signed : Bool} (valid : s.memValid addr n = true) :
      s.loadLiteral rt (s.pcOffset imm19) n signed m = .next (s.loadTo addr n signed m rt) := by
    rw [address]; exact State.checkValid_pos valid
  have stops {n m : Nat} {signed : Bool} (invalid : s.memValid addr n = false) :
      s.loadLiteral rt (s.pcOffset imm19) n signed m = .fault (.address s.pc addr) := by
    rw [address]; exact State.checkValid_neg invalid
  exact ⟨fun valid => ⟨_, runs valid, s.onlyRz_loadTo addr .w rt⟩,
    fun valid => ⟨_, runs valid, s.onlyRz_loadTo addr .x rt⟩,
    fun valid => ⟨_, runs valid, s.onlyRz_wrRz rt _⟩,
    fun invalid => ⟨stops invalid, stops invalid⟩, stops⟩

end Sys2Proof.Machine
end

section
/-! PROOFS. The atomic read-modify-writes (R366, R368, R369), and where loads and stores stop (R353, R354, R358,
R359, R364, R467). -/

namespace Sys2Proof.Machine

variable {s : State} {i : Instr} {size : AccessSize} {rs rn rt : RegNum}

/-! ## Compare and swap -/

/-- A register read is the low bits of its X read (R24). -/
theorem State.setWidth_rz_64 (s : State) (n : Nat) (i : RegNum) : (s.rz 64 i).setWidth n = s.rz n i := by
  by_cases h : i = 31#5
  · simp [h]
  · rw [State.rz_of_ne s h, State.rz_of_ne s h, BitVec.setWidth_eq]

/-- A write of a loaded value, through W or directly (R23, R366). -/
theorem State.wroteRz_wrRz_loaded (s : State) (rt : RegNum) (old : BitVec (8 * accessBytes size)) :
    s.WroteRz (s.wrRz rt (old.setWidth (accessRegWidth size))) rt (old.setWidth 64) :=
  (s.wroteRz_wrRz rt _).widen (by rw [setWidth_accessRegWidth, BitVec.setWidth_eq])

/-- A read-modify-write stores one value and loads another, and clears the local monitor (R79, R366, R368). -/
theorem State.store_wrRz_effect {w : Nat} (hm : Memory.wf s.mem = true) (addr : Word) (new : BitVec w) (rd : RegNum)
    (old : BitVec (8 * accessBytes size)) :
    let t := (s.store addr (accessBytes size) new).wrRz rd (old.setWidth (accessRegWidth size))
    s.Stored t addr (accessBytes size) new ∧ s.WroteRz t rd (old.setWidth 64) ∧ t.localMonitor = none ∧
      t.globalMonitor = s.globalMonitor ∧ s.SameButMemory t := by
  intro t
  have frame : s.SameRegs (s.store addr (accessBytes size) new) := .of rfl rfl
  exact ⟨(s.stored_store addr size new hm).congr (State.wrRz_mem _ rd _),
    (State.wroteRz_wrRz_loaded _ rd old).afterSameRegs frame, State.wrRz_localMonitor _ rd _,
    State.wrRz_globalMonitor _ rd _, (s.sameButMemory_store addr _ new).wrRz⟩

/-- Settles O53, by whether memory holds Rs. -/
theorem compareAndSwap : Obligations.CompareAndSwap := by
  unfold Obligations.CompareAndSwap
  intro s size acq rel rs rn rt addr old hm base line valid
  have run : exec (.cas size acq rs rel rn rt) s =
      .next ((if old = s.rz (8 * accessBytes size) rs then s.store addr (accessBytes size) (s.rz 64 rt) else s).wrRz rs
        (old.setWidth (accessRegWidth size))) := State.checkAtomic_pos base line valid
  rw [← State.setWidth_rz_64] at run
  by_cases holds : old = (s.rz 64 rs).setWidth (8 * accessBytes size)
  · rw [if_pos holds] at run
    obtain ⟨stored, wrote, cleared, rest⟩ := State.store_wrRz_effect hm addr (s.rz 64 rt) rs old
    exact ⟨_, run, wrote, fun _ => ⟨stored, cleared⟩, fun ne => absurd holds ne, rest⟩
  · rw [if_neg holds] at run
    exact ⟨_, run, s.wroteRz_wrRz_loaded rs old, fun eq => absurd eq holds,
      fun _ => ⟨State.byteAt_congr (s.wrRz_mem rs _), s.wrRz_localMonitor rs _⟩, s.wrRz_globalMonitor rs _,
      State.SameButMemory.wrRz ⟨.refl s, rfl, .refl s⟩⟩

/-! ## Atomic updates -/

/-- A maximum or minimum, compared as the rule compares and as the model does. -/
theorem ite_lt_eq_ite_ge {α β : Type} [LinearOrder α] (a b : α) (x y : β)
    [Decidable (a < b)] [Decidable (a ≥ b)] : (if a < b then x else y) = if a ≥ b then y else x := by
  simp only [← not_le, ite_not, ge_iff_le]

/-- An update stores what its operation makes of the old value and the operand. -/
theorem exec_atomicUpdate
    {op : BitVec (8 * accessBytes size) → BitVec (8 * accessBytes size) → BitVec (8 * accessBytes size)}
    (hm : Memory.wf s.mem = true) (base : s.baseOk rn) (line : inLine (s.rsp 64 rn) (accessBytes size))
    (valid : s.memValid (s.rsp 64 rn) (accessBytes size) = true) (run : exec i s = s.atomicUpdate size rs rn rt op) :
    let old := s.memRead (s.rsp 64 rn) (accessBytes size)
    ∃ t, exec i s = .next t ∧
      s.Stored t (s.rsp 64 rn) (accessBytes size) (op old ((s.rz 64 rs).setWidth (8 * accessBytes size))) ∧
      s.WroteRz t rt (old.setWidth 64) ∧ t.localMonitor = none ∧ t.globalMonitor = s.globalMonitor ∧
      s.SameButMemory t := by
  rw [s.setWidth_rz_64]
  exact ⟨_, run.trans (State.atomicUpdate_next.mpr ⟨base, line, valid, rfl⟩),
    State.store_wrRz_effect hm _ _ rt _⟩

/-- Settles O54: all nine are one update, each by its operation. -/
theorem atomicUpdates : Obligations.AtomicUpdates := by
  unfold Obligations.AtomicUpdates
  intro s size acq rel rs rn rt addr old v hm base line valid
  simp only [List.forall_mem_cons, ite_lt_eq_ite_ge]
  have update {i : Instr} (op) (run : exec i s = s.atomicUpdate size rs rn rt op) :=
    exec_atomicUpdate hm base line valid run
  exact ⟨update (fun _ v => v) rfl, update (fun old v => old + v) rfl, update (fun old v => old &&& ~~~v) rfl,
    update (fun old v => old ^^^ v) rfl, update (fun old v => old ||| v) rfl,
    update (fun old v => if old.toInt ≥ v.toInt then old else v) rfl,
    update (fun old v => if old.toInt ≤ v.toInt then old else v) rfl,
    update (fun old v => if old.toNat ≥ v.toNat then old else v) rfl,
    update (fun old v => if old.toNat ≤ v.toNat then old else v) rfl, List.forall_mem_nil _⟩

/-! ## Stops -/

/-- The accesses that must lie in one line make the three checks of `State.checkAtomic`, a store-exclusive after
that of its status register. -/
theorem exec_lineAccess (access : lineAccess i = some (size, rn))
    (free : ∀ size rs rn rt, i = .stxr size rs rn rt ∨ i = .stlxr size rs rn rt → rs ≠ rt ∧ rs ≠ rn)
    (s : State) : ∃ k, exec i s = s.checkAtomic rn (accessBytes size) k := by
  unfold lineAccess at access
  split at access <;> simp only [Option.some.injEq, Prod.mk.injEq, reduceCtorEq] at access <;>
    obtain ⟨rfl, rfl⟩ := access
  -- STXR and STLXR, whose status register is none of their operands
  case h_6 => exact ⟨_, if_neg (not_or.mpr (free _ _ _ _ (.inl rfl)))⟩
  case h_7 => exact ⟨_, if_neg (not_or.mpr (free _ _ _ _ (.inr rfl)))⟩
  all_goals exact ⟨_, rfl⟩

/-- Settles O55: each check answers where it fails and those before it pass. -/
theorem loadStoreStops : Obligations.LoadStoreStops := by
  unfold Obligations.LoadStoreStops
  intro s
  refine ⟨?single, ?pair, ?status, ?line⟩
  case single =>
    intro kind mode rn rt wf addr back
    have at_mode : s.modeAddress rn (kindBytes kind) mode = (addr, back) := rfl
    rw [exec_singleOf kind wf at_mode]
    refine ⟨State.checkBack_neg, fun apart misaligned => ?_, fun apart base invalid => ?_⟩
    · rw [State.checkSingle, State.checkBack_pos apart, State.checkSp_neg misaligned]
    · rw [State.checkSingle, State.checkBack_pos apart, State.checkSp_pos base, State.checkValid_neg invalid]
  case pair =>
    intro store sf mode rt2 rn rt size addr back
    have at_mode : s.pairModeAddress rn (pairBytes sf) mode = (addr, back) := rfl
    have apart_run (distinct : store = true ∨ rt ≠ rt2) (apart : noOverlap back rn rt)
        (apart2 : noOverlap back rn rt2) : ∃ k,
          exec (pairOf store sf rt2 rn rt mode) s = s.checkSp rn (s.checkPair addr size k) :=
      ⟨_, (exec_pairOf sf mode distinct at_mode).trans (State.checkPairAccess_of_apart apart apart2)⟩
    refine ⟨?same, fun distinct overlap => ?overlap, fun distinct apart apart2 misaligned => ?sp,
      fun distinct apart apart2 base invalid => ?first, fun distinct apart apart2 base valid invalid => ?second⟩
    case same => rintro rfl rfl; exact exec_ldp_same sf mode rn rt
    case overlap => exact (exec_pairOf sf mode distinct at_mode).trans (State.checkPairAccess_overlap overlap)
    all_goals obtain ⟨k, run⟩ := apart_run distinct apart apart2
    case sp => rw [run, State.checkSp_neg misaligned]
    case first => rw [run, State.checkSp_pos base, State.checkPair, State.checkValid_neg invalid]
    case second =>
      rw [run, State.checkSp_pos base, State.checkPair, State.checkValid_pos valid]
      exact State.checkValid_neg invalid
  case status => exact fun size rs rn rt overlap => ⟨if_pos overlap, if_pos overlap⟩
  case line =>
    intro i size rn access free addr
    obtain ⟨k, run⟩ := exec_lineAccess access free s
    rw [run, State.checkAtomic]
    refine ⟨State.checkSp_neg, fun base outside => ?_, fun base line invalid => ?_⟩
    · rw [State.checkSp_pos base]; exact State.checkLine_neg outside
    · rw [State.checkSp_pos base]; exact (State.checkLine_pos line).trans (State.checkValid_neg invalid)

end Sys2Proof.Machine
end

section
/-! PROOFS. Stops (R452, R453, R465): the forms that always stop, and what a step that stops records and leaves. -/

namespace Sys2Proof.Machine

variable {s : State} {k : Result} {f : Fault} {r : Refusal}

/-! ## The forms that always stop -/

theorem exec_hint_of_pacHint {imm7 : BitVec 7} {name : String} (h : pacHint? imm7 = some name) :
    exec (.hint imm7) s = .refused (.pointerAuthentication s.pc name (.instr (.hint imm7))) := by
  change execHint imm7 s = _
  rw [execHint, h]; rfl

/-- The pointer-authentication hints of R385 are in the model's table. -/
theorem isSome_pacHint : ∀ k ∈ [7, 8, 10, 12, 14, 24, 25, 26, 27, 28, 29, 30, 31],
    (pacHint? (BitVec.ofNat 7 k)).isSome = true := by decide

/-! ## What a stop of a step records -/

/-- An answer that, where it stops, records the PC of `s`, and as a refusal the command `c`. Unlike `Good` it says
nothing of a next state, so that it holds of a whole step, which retires the instruction or ends the run. -/
inductive Records (c : Command) (s : State) : Result → Prop
  | next {t : State} : Records c s (.next t)
  | fault {f : Fault} (h : f.pc = s.pc) : Records c s (.fault f)
  | refused {r : Refusal} (h : r.pc? = some s.pc) (h' : r.command? = some c) : Records c s (.refused r)

namespace Records

variable {c : Command}

theorem fault_pc (h : Records c s (.fault f)) : f.pc = s.pc := by
  cases h with
  | fault h => exact h

theorem refused_pc (h : Records c s (.refused r)) : r.pc? = some s.pc := by
  cases h with
  | refused h _ => exact h

theorem refused_command (h : Records c s (.refused r)) : r.command? = some c := by
  cases h with
  | refused _ h => exact h

theorem ite {p : Prop} [Decidable p] {a b : Result} (ha : Records c s a) (hb : Records c s b) :
    Records c s (if p then a else b) := by
  split
  · exact ha
  · exact hb

theorem btiCheck {permits : Bool} (h : Records c s k) : Records c s (s.btiCheck permits k) := ite (.fault rfl) h

/-- What follows an instruction adds no stop, and the loop starts the instruction at the same PC. -/
theorem onNext_of_good {g : State → State} (h : Good c s.begin k) : Records c s (onNext k g) := by
  obtain ⟨-, faults, refusals⟩ := h
  cases k with
  | next => exact .next
  | fault f => exact .fault (faults f rfl)
  | refused r =>
    obtain ⟨pc, command⟩ := refusals r rfl
    exact .refused pc command

theorem runInstr (i : Instr) : Records (.instr i) s (s.runInstr i) :=
  btiCheck (onNext_of_good (exec_answers i s.begin).good)

theorem runRejected (word : BitVec 32) (reject : Reject) : Records (.word word) s (s.runRejected word reject) := by
  cases reject with
  | unallocated => exact .fault rfl
  | unimplemented => exact btiCheck (.fault rfl)
  | pointerAuthentication name => exact btiCheck (.refused rfl rfl)

theorem runNative (c : NativeCmd) : Records (.native c) s (s.runNative c) :=
  ite (btiCheck (onNext_of_good (execNative_good c s.begin))) (.fault rfl)

section Running

variable (running : s.status = .running)
include running

/-- The checks before decoding fault at PC; only a machine that does not run is refused there. -/
theorem beforeDecode (h : Records c s k) : Records c s (s.beforeDecode k) := by
  rw [State.beforeDecode, if_neg (not_not_intro running)]
  exact ite .next (ite (.fault rfl) (ite h (.fault rfl)))

theorem step : Records s.commandAt s (step s) := by
  refine beforeDecode running ?_
  rw [State.commandAt]
  cases decode s.fetchWord with
  | instr i => exact runInstr i
  | rejected r => exact runRejected s.fetchWord r

theorem stepNative (c : NativeCmd) : Records (.native c) s (stepNative c s) := beforeDecode running (runNative c)

end Running

end Records

/-! ## What a stop of a step leaves -/

theorem advance_of_running (running : s.status = .running) : advance s = s.settle (step s) := by
  rw [advance, running]

/-- A machine whose status says why it stopped has no next step (R49). -/
theorem step_ne_next_of_stopped {why : Status} (stopped : why ≠ .running) (u : State) :
    step { s with status := why } ≠ .next u := by
  rw [step_of_not_running stopped]; exact nofun

/-! ## Obligations -/

/-- Settles O42: UDF, the table of pointer-authentication hints, and SYS where it would write memory. -/
theorem stoppingForms : Obligations.StoppingForms := by
  unfold Obligations.StoppingForms
  refine fun s imm16 op1 crn crm op2 rt => ⟨rfl, fun k hk => ?_, fun writes => if_pos writes⟩
  obtain ⟨name, h⟩ := Option.isSome_iff_exists.mp (isSome_pacHint k hk)
  exact ⟨name, exec_hint_of_pacHint h⟩

/-- Settles O9: every check and every meaning stops with the PC and the command, and settling a stop writes the
status alone. -/
theorem faultsRecordPc : Obligations.FaultsRecordPc := by
  unfold Obligations.FaultsRecordPc
  intro s running leaves
  have settled {k : Result} {c : Command} (h : Records c s k) :
      (∀ f, k = .fault f → f.pc = s.pc ∧ leaves (s.settle k) (.faulted f)) ∧
        ∀ r, k = .refused r → r.pc? = some s.pc ∧ r.command? = some c ∧ leaves (s.settle k) (.refused r) := by
    constructor
    · rintro f rfl
      exact ⟨h.fault_pc, rfl, step_ne_next_of_stopped nofun⟩
    · rintro r rfl
      exact ⟨h.refused_pc, h.refused_command, rfl, step_ne_next_of_stopped nofun⟩
  obtain ⟨faults, refusals⟩ := settled (Records.step running)
  rw [advance_of_running running]
  exact ⟨faults, refusals, fun c => (settled (Records.stepNative running c)).1,
    fun c => (settled (Records.stepNative running c)).2⟩

end Sys2Proof.Machine
end

section
/-! PROOFS. Predicate flags and WHILE (R423, R426, R428): the flags of the test by the first and last active
element, and the elements of a WHILE result. -/

namespace Sys2Proof.Machine

variable {s : State} {g p : BitVec 256} {l e : Nat}

/-! ## The flags of the test (R423) -/

/-- Element `k` of the `e` elements of a governing predicate is active. -/
def ActiveElement (g : BitVec 256) (l e k : Nat) : Prop := k < e ∧ predElem g l k = true

theorem firstActive_eq_some {k : Nat} : firstActive g l e = some k ↔
    ActiveElement g l e k ∧ ∀ j < k, ¬ActiveElement g l e j := by
  simp only [firstActive_some, ActiveElement, not_and, Bool.not_eq_true, and_assoc]
  exact and_congr_right fun inside => and_congr_right fun _ =>
    forall₂_congr fun j hj => ⟨fun h _ => h, fun h => h (hj.trans inside)⟩

theorem lastActive_eq_some {k : Nat} : lastActive g l e = some k ↔
    ActiveElement g l e k ∧ ∀ j, k < j → ¬ActiveElement g l e j := by
  simp only [lastActive_some, ActiveElement, not_and, Bool.not_eq_true, and_assoc]

theorem ptestFlags_n : (ptestFlags g p l e).n = true ↔
    ∃ k, ActiveElement g l e k ∧ (∀ j < k, ¬ActiveElement g l e j) ∧ predElem p l k = true := by
  have flag : (ptestFlags g p l e).n = true ↔ ∃ k, firstActive g l e = some k ∧ predElem p l k = true := by
    cases h : firstActive g l e <;> simp [ptestFlags, h]
  simp only [flag, firstActive_eq_some, and_assoc]

theorem ptestFlags_z : (ptestFlags g p l e).z = true ↔
    ∀ k, ActiveElement g l e k → ¬predElem p l k = true := by
  simp [ptestFlags, ActiveElement]

theorem ptestFlags_c : (ptestFlags g p l e).c = true ↔
    ∀ k, ActiveElement g l e k → (∀ j, k < j → ¬ActiveElement g l e j) → ¬predElem p l k = true := by
  have flag : (ptestFlags g p l e).c = true ↔ ∀ k, lastActive g l e = some k → ¬predElem p l k = true := by
    cases h : lastActive g l e <;> simp [ptestFlags, h]
  simp only [flag, lastActive_eq_some, and_imp]

/-- Under an all-true predicate the first element, all elements and the last one decide (R423, R426). -/
theorem ptestFlags_of_allActive (he : 0 < e) (all : ∀ k < e, predElem g l k = true) : ptestFlags g p l e =
    { n := predElem p l 0, z := decide (∀ k < e, predElem p l k = false), c := !predElem p l (e - 1), v := false } := by
  have first : firstActive g l e = some 0 := firstActive_some.mpr ⟨he, all 0 he, fun j hj => absurd hj j.not_lt_zero⟩
  have last : lastActive g l e = some (e - 1) :=
    lastActive_some.mpr ⟨by omega, all (e - 1) (by omega), fun j _ _ => by omega⟩
  have any : (ptestFlags g p l e).z = decide (∀ k < e, predElem p l k = false) := by
    rw [Bool.eq_iff_iff, ptestFlags_z, decide_eq_true_iff]
    exact forall_congr' fun k => ⟨fun h inside => Bool.eq_false_iff.mpr (h ⟨inside, all k inside⟩),
      fun h ⟨inside, _⟩ => Bool.eq_false_iff.mp (h inside)⟩
  rw [← any, ptestFlags, first, last]

theorem ctermFlags_c (term : Bool) (f : Nzcv) : (ctermFlags term f).c = f.c := by cases term <;> rfl

theorem ctermFlags_z (term : Bool) (f : Nzcv) : (ctermFlags term f).z = f.z := by cases term <;> rfl

/-! ## The elements of WHILE (R426) -/

theorem accessBytes_pos (size : AccessSize) : 0 < accessBytes size := by cases size <;> decide

theorem accessBytes_le (size : AccessSize) : accessBytes size ≤ 8 := by cases size <;> decide

theorem Platform.vl_bounds {p : Platform} (h : p.wf = true) : 128 ≤ p.vl ∧ p.vl ≤ 2048 := by
  simp only [Platform.wf, Bool.and_eq_true, decide_eq_true_eq] at h
  obtain ⟨⟨⟨⟨low, high, -⟩, -⟩, -⟩, -⟩ := h
  exact ⟨low, high⟩

/-- The elements of a register fill no more than VL/8 predicate bits. -/
theorem State.accessBytes_mul_elements_le (s : State) (size : AccessSize) :
    accessBytes size * s.elements size ≤ s.platform.vl / 8 := by
  rw [State.elements, elemBytes, ← Nat.div_div_eq_div_mul]
  exact Nat.mul_div_le _ _

section WellFormed

variable (wf : s.platform.wf = true) (size : AccessSize)
include wf

theorem State.accessBytes_mul_elements_le_256 : accessBytes size * s.elements size ≤ 256 := by
  obtain ⟨-, high⟩ := Platform.vl_bounds wf
  exact (s.accessBytes_mul_elements_le size).trans (by omega)

theorem State.elements_pos : 0 < s.elements size := by
  obtain ⟨low, -⟩ := Platform.vl_bounds wf
  have small := accessBytes_le size
  exact Nat.div_pos (by rw [elemBytes]; omega) (Nat.mul_pos (by decide) (accessBytes_pos size))

theorem State.predElem_predOf_elements (f : Nat → Bool) {k : Nat} (hk : k < s.elements size) :
    predElem (predOf (accessBytes size) (s.elements size) f) (accessBytes size) k = f k := by
  rw [predElem_predOf f (accessBytes_pos size) (State.accessBytes_mul_elements_le_256 wf size), decide_eq_true hk,
    Bool.true_and]

/-- Only the lowest bit of each element's group is ever set (R422). -/
theorem State.getLsbD_predOf_elements_of_outside (f : Nat → Bool) {i : Nat}
    (outside : ¬(i % accessBytes size = 0 ∧ i / accessBytes size < s.elements size)) :
    (predOf (accessBytes size) (s.elements size) f).getLsbD i = false := by
  rw [getLsbD_predOf _ _ f i (State.accessBytes_mul_elements_le_256 wf size), ← Bool.decide_and,
    decide_eq_false outside, Bool.false_and]

/-- A predicate of the machine's elements has no bit above VL/8, so that it is read as it was written. -/
theorem State.pReg_wrP_predOf (pd : BitVec 4) (f : Nat → Bool) :
    (s.wrP pd (predOf (accessBytes size) (s.elements size) f)).pReg pd =
      predOf (accessBytes size) (s.elements size) f := by
  rw [State.pReg_wrP, if_pos rfl]
  apply BitVec.eq_of_getLsbD_eq
  intro i hi
  obtain ⟨-, high⟩ := Platform.vl_bounds wf
  rw [BitVec.getLsbD_and, State.getLsbD_pMask _ _ (by omega)]
  by_cases inside : i < s.platform.vl / 8
  · rw [decide_eq_true inside, Bool.and_true]
  · have fits := s.accessBytes_mul_elements_le size
    rw [State.getLsbD_predOf_elements_of_outside wf size f, Bool.false_and]
    rw [Nat.div_lt_iff_lt_mul (accessBytes_pos size), Nat.mul_comm]
    omega

/-- The test under an all-true predicate (R423, R426). -/
theorem State.ptest_allTrue (p : BitVec 256) :
    s.ptest (predOf (accessBytes size) (s.elements size) fun _ => true) p size =
      { n := predElem p (accessBytes size) 0
        z := decide (∀ k < s.elements size, predElem p (accessBytes size) k = false)
        c := !predElem p (accessBytes size) (s.elements size - 1)
        v := false } :=
  ptestFlags_of_allActive (State.elements_pos wf size) fun _ hk => State.predElem_predOf_elements wf size _ hk

end WellFormed

/-- Element `k` of WHILE's comparison, on integers (R426). -/
def whileCompare (cond : WhileCond) (x y : Int) : Prop :=
  match cond with
  | .lt | .lo => x < y
  | .le | .ls => x ≤ y

theorem whileTest_of_inRange {cond : WhileCond} {n : Nat} {a b : BitVec n} {free : BitVec 256} {k : Nat}
    (inRange : laneInt (whileSigned cond) a + k ≤ intMax n (whileSigned cond)) :
    whileTest cond n a b free k = true ↔
      whileCompare cond (laneInt (whileSigned cond) a + k) (laneInt (whileSigned cond) b) := by
  have inside : whileWraps n (whileSigned cond) a k = false := decide_eq_false (by omega)
  simp only [whileTest, inside, Bool.false_eq_true, if_false]
  cases cond <;> exact decide_eq_true_iff

/-- Once an element of WHILE does not hold, none after it does (R426). -/
theorem whileHolds_eq_false {test : Nat → Bool} {j k : Nat} (le : j ≤ k) (h : whileHolds test j = false) :
    whileHolds test k = false := by
  rw [Bool.eq_false_iff, Ne, whileHolds_iff] at h ⊢
  exact fun all => h fun i hi => all i (hi.trans le)

/-- While the running value stays in range, an element holds exactly when the comparison does up to it (R426). -/
theorem whileHolds_whileTest {cond : WhileCond} {n : Nat} {a b : BitVec n} {free : BitVec 256} {k : Nat}
    (inRange : laneInt (whileSigned cond) a + k ≤ intMax n (whileSigned cond)) :
    whileHolds (whileTest cond n a b free) k = true ↔
      ∀ j ≤ k, whileCompare cond (laneInt (whileSigned cond) a + j) (laneInt (whileSigned cond) b) := by
  rw [whileHolds_iff]
  exact forall₂_congr fun j hj => whileTest_of_inRange (by omega)

section Elements

variable (cond : WhileCond) (sf : Bool) (size : AccessSize) (rm rn : RegNum) (pd : BitVec 4)

/-- The elements that WHILE finds to hold. -/
def State.whileElement (s : State) : Nat → Bool :=
  whileHolds (whileTest cond (width sf) (s.rz (width sf) rn) (s.rz (width sf) rm) (Config.freePredicate s.freeCount))

/-- WHILE writes its elements and the flags of the test under an all-true predicate (R426). -/
theorem execNative_whileLanes (s : State) : execNative (.whileLanes cond sf size rm rn pd) s =
    let result := predOf (accessBytes size) (s.elements size) (s.whileElement cond sf rm rn)
    let allTrue := predOf (accessBytes size) (s.elements size) fun _ => true
    .next ((s.wrP pd result).setFlags (s.ptest allTrue result size)).drawn := rfl

end Elements

/-! ## Obligations -/

/-- Settles O58: PTEST is the test at byte elements, CTERM its two flags. -/
theorem predicateFlags : Obligations.PredicateFlags := by
  unfold Obligations.PredicateFlags
  intro s pg pn ne sf rm rn bits act holds term
  have active (k : Nat) : ActiveElement (s.pReg pg) 1 bits k ↔ act k := by rw [ActiveElement, predElem, Nat.one_mul]
  have element (k : Nat) : predElem (s.pReg pn) 1 k = true ↔ holds k := by rw [predElem, Nat.one_mul]
  refine ⟨⟨ptestFlags (s.pReg pg) (s.pReg pn) 1 bits, rfl, ?n, ?z, ?c, rfl⟩,
    ⟨ctermFlags _ s.nzcv, rfl, ctermFlags_c .., ctermFlags_z .., ?_⟩⟩
  case n => simp only [ptestFlags_n, active, element]
  case z => simp only [ptestFlags_z, active, element]
  case c => simp only [ptestFlags_c, active, element]
  have terminates : (if ne then !decide (s.rz (width sf) rn = s.rz (width sf) rm)
      else decide (s.rz (width sf) rn = s.rz (width sf) rm)) = decide term := by
    cases ne with
    | false => rfl
    | true => exact decide_not.symm
  rw [terminates]
  exact ⟨fun h => by rw [decide_eq_true h]; exact ⟨rfl, rfl⟩, fun h => by rw [decide_eq_false h]; exact ⟨rfl, rfl⟩⟩

/-- Settles O59: the elements of the result, and the test under an all-true predicate. -/
theorem whileLanes : Obligations.WhileLanes := by
  unfold Obligations.WhileLanes
  intro s cond sf size rm rn pd wf value top cmp count
  refine ⟨_, execNative_whileLanes cond sf size rm rn pd s, ?_⟩
  intro elem
  have written : State.pReg _ pd = _ := State.pReg_wrP_predOf wf size pd (s.whileElement cond sf rm rn)
  have elem_eq (k : Nat) : elem k =
      predElem (predOf (accessBytes size) (s.elements size) (s.whileElement cond sf rm rn)) (accessBytes size) k :=
    congrArg (predElem · (accessBytes size) k) written
  have elem_of_lt {k : Nat} (hk : k < count) : elem k = s.whileElement cond sf rm rn k :=
    (elem_eq k).trans (State.predElem_predOf_elements wf size _ hk)
  have inRange {k : Nat} : value rn + k ≤ top ↔
      laneInt (whileSigned cond) (s.rz (width sf) rn) + k ≤ intMax (width sf) (whileSigned cond) := by
    cases cond <;> simp [value, top, laneInt, whileSigned, intMax]
  refine ⟨fun j k hjk hk clear => ?later, fun k hk le => ?element, fun i outside => ?rest, ?flags,
    fun q hq => ?others, .of rfl rfl, rfl, rfl⟩
  case later =>
    rw [elem_of_lt (hjk.trans hk)] at clear
    rw [elem_of_lt hk]
    exact whileHolds_eq_false hjk.le clear
  case element =>
    rw [elem_of_lt hk, State.whileElement, whileHolds_whileTest (inRange.mp le)]
    cases cond <;> rfl
  case rest =>
    exact (congrArg (·.getLsbD i) written).trans (State.getLsbD_predOf_elements_of_outside wf size _ outside)
  case flags =>
    simp only [elem_eq]
    exact State.ptest_allTrue wf size _
  case others => exact (State.pReg_wrP s pd q _).trans (if_neg hq)

end Sys2Proof.Machine
end

section
/-! PROOFS. FCMP of doubles (R401, R406): decoded values compare as their encodings do by sign and magnitude, for the
magnitude of an encoding grows with it. -/

namespace Sys2Proof.Machine

variable {s : State}

/-! ## An FP command under FPCR -/

theorem whenFp_pos {c : NativeCmd} {k : Result} (h : s.fpcr &&& ~~~0x07C00000#32 = 0#32) : whenFp c s k = k :=
  if_pos (decide_eq_true h)

theorem whenFp_neg {c : NativeCmd} {k : Result} (h : s.fpcr &&& ~~~0x07C00000#32 ≠ 0#32) :
    whenFp c s k = .fault (.unimplemented s.pc (.native c)) :=
  if_neg fun supported => h (of_decide_eq_true supported)

/-! ## The order of decoded values -/

/-- The relation of two integers, in the words of an FP compare. -/
def intRelation (a b : Int) : FpRelation := if a = b then .equal else if a < b then .less else .greater

theorem intRelation_self (a : Int) : intRelation a a = .equal := if_pos rfl

theorem intRelation_of_lt {a b : Int} (h : a < b) : intRelation a b = .less := by
  rw [intRelation, if_neg h.ne, if_pos h]

theorem intRelation_of_gt {a b : Int} (h : b < a) : intRelation a b = .greater := by
  rw [intRelation, if_neg h.ne', if_neg h.not_gt]

/-- The relation of two integers is their order. -/
theorem intRelation_congr {a b c d : Int} (lt : a < b ↔ c < d) (gt : b < a ↔ d < c) :
    intRelation a b = intRelation c d := by
  have eq : a = b ↔ c = d := by omega
  simp only [intRelation, eq, lt]

theorem signedInt_bounds {m bound : Nat} (h : m < bound) (neg : Bool) :
    -(bound : Int) < signedInt neg m ∧ signedInt neg m < bound := by
  cases neg <;> simp only [signedInt, Bool.false_eq_true, if_true, if_false] <;> omega

section Scale

variable {g : Nat → Nat} (mono : StrictMono g) (zero : g 0 = 0) (n1 n2 : Bool) (m1 m2 : Nat)
include mono zero

/-- Signed magnitudes keep their order under a strictly increasing change of scale that fixes zero. -/
theorem signedInt_map_lt_iff :
    signedInt n1 (g m1) < signedInt n2 (g m2) ↔ signedInt n1 m1 < signedInt n2 m2 := by
  have lt12 : g m1 < g m2 ↔ m1 < m2 := mono.lt_iff_lt
  have lt21 : g m2 < g m1 ↔ m2 < m1 := mono.lt_iff_lt
  have pos1 : 0 < g m1 ↔ 0 < m1 := by simpa only [zero] using mono.lt_iff_lt (a := 0) (b := m1)
  have pos2 : 0 < g m2 ↔ 0 < m2 := by simpa only [zero] using mono.lt_iff_lt (a := 0) (b := m2)
  cases n1 <;> cases n2 <;> simp only [signedInt, Bool.false_eq_true, if_true, if_false] <;> omega

theorem intRelation_signedInt_map :
    intRelation (signedInt n1 (g m1)) (signedInt n2 (g m2)) = intRelation (signedInt n1 m1) (signedInt n2 m2) :=
  intRelation_congr (signedInt_map_lt_iff mono zero ..) (signedInt_map_lt_iff mono zero ..)

end Scale

/-- `x` stands for the integer `key` in units of `2 ^ unit`; an infinity stands for one that exceeds those of all
numbers. -/
inductive HasKey (unit : Int) (infinity : Nat) : FpValue → Int → Prop
  | inf (neg : Bool) : HasKey unit infinity (.inf neg) (signedInt neg infinity)
  | num (neg : Bool) (m k : Nat) (finite : m * 2 ^ k < infinity) :
      HasKey unit infinity (.num neg m (unit + k)) (signedInt neg (m * 2 ^ k : Nat))

/-- Two numbers compare by their integers in a common unit (R406). -/
theorem fpOrder_num (unit : Int) (n1 n2 : Bool) (m1 m2 k1 k2 : Nat) :
    fpOrder (.num n1 m1 (unit + k1)) (.num n2 m2 (unit + k2)) =
      intRelation (signedInt n1 (m1 * 2 ^ k1 : Nat)) (signedInt n2 (m2 * 2 ^ k2 : Nat)) := by
  have shared (m k : Nat) (low : min k1 k2 ≤ k) :
      m * 2 ^ k = m * 2 ^ (unit + k - min (unit + k1) (unit + k2)).toNat * 2 ^ min k1 k2 := by
    rw [Nat.mul_assoc, ← Nat.pow_add]
    congr; omega
  rw [shared m1 k1 (by omega), shared m2 k2 (by omega), intRelation_signedInt_map (g := (· * 2 ^ min k1 k2))
    (strictMono_mul_right_of_pos (by positivity)) (Nat.zero_mul _)]
  rfl

/-- Decoded values compare by their integers, an infinity beyond every number (R406). -/
theorem fpOrder_of_hasKey {unit : Int} {infinity : Nat} {x y : FpValue} {a b : Int} (hx : HasKey unit infinity x a)
    (hy : HasKey unit infinity y b) (pos : 0 < infinity) : fpOrder x y = intRelation a b := by
  have ends : -(infinity : Int) < infinity := by omega
  cases hx with
  | inf n1 =>
    cases hy with
    | inf n2 =>
      cases n1 <;> cases n2
      · exact (intRelation_self _).symm
      · exact (intRelation_of_gt ends).symm
      · exact (intRelation_of_lt ends).symm
      · exact (intRelation_self _).symm
    | num n2 m2 k2 finite =>
      obtain ⟨above, below⟩ := signedInt_bounds finite n2
      cases n1
      · exact (intRelation_of_gt below).symm
      · exact (intRelation_of_lt above).symm
  | num n1 m1 k1 finite =>
    cases hy with
    | inf n2 =>
      obtain ⟨above, below⟩ := signedInt_bounds finite n1
      cases n2
      · exact (intRelation_of_lt below).symm
      · exact (intRelation_of_gt above).symm
    | num n2 m2 k2 => exact fpOrder_num unit n1 n2 m1 m2 k1 k2

/-! ## Encodings -/

/-- The bits of an encoding below its sign, as a number. -/
def fpMagnitude (f : FpFormat) (v : BitVec 64) : Nat := v.toNat % 2 ^ (fracBits f + expBits f)

/-- The number with magnitude bits `m`, in units of the least denormal number; of an infinity, the number its exponent
would stand for in a wider format. -/
def fpScaled (f : FpFormat) (m : Nat) : Nat :=
  (if m / 2 ^ fracBits f = 0 then m % 2 ^ fracBits f else 2 ^ fracBits f + m % 2 ^ fracBits f) *
    2 ^ (m / 2 ^ fracBits f - 1)

theorem fpScaled_zero (f : FpFormat) : fpScaled f 0 = 0 := by simp [fpScaled]

theorem fpScaled_denormal {f : FpFormat} {m : Nat} (zero : m / 2 ^ fracBits f = 0) :
    fpScaled f m = m % 2 ^ fracBits f * 2 ^ 0 := by
  rw [fpScaled, if_pos zero, zero]

theorem fpScaled_normal {f : FpFormat} {m : Nat} (nonzero : m / 2 ^ fracBits f ≠ 0) :
    fpScaled f m = (2 ^ fracBits f + m % 2 ^ fracBits f) * 2 ^ (m / 2 ^ fracBits f - 1) := by
  rw [fpScaled, if_neg nonzero]

theorem fpScaled_strictMono (f : FpFormat) : StrictMono (fpScaled f) := by
  apply strictMono_nat_of_lt_succ
  intro m
  have pos : 0 < 2 ^ fracBits f := by positivity
  unfold fpScaled
  generalize 2 ^ fracBits f = P at pos ⊢
  have split : P * (m / P) + m % P = m := Nat.div_add_mod m P
  have low : m % P < P := Nat.mod_lt m pos
  by_cases top : m % P + 1 = P
  · have next : m + 1 = P * (m / P + 1) := by rw [Nat.mul_succ]; omega
    rw [next, Nat.mul_div_cancel_left _ pos, Nat.mul_mod_right, if_neg (Nat.succ_ne_zero _)]
    cases m / P with
    | zero => simp; omega
    | succ q =>
      rw [if_neg (Nat.succ_ne_zero _), Nat.add_sub_cancel, Nat.add_sub_cancel, Nat.pow_succ', Nat.add_zero,
        ← Nat.mul_assoc]
      exact Nat.mul_lt_mul_of_pos_right (by omega) (by positivity)
  · have next : m + 1 = m % P + 1 + P * (m / P) := by omega
    have quotient : (m + 1) / P = m / P := by
      rw [next, Nat.add_mul_div_left _ _ pos, Nat.div_eq_of_lt (by omega), Nat.zero_add]
    have remainder : (m + 1) % P = m % P + 1 := by
      rw [next, Nat.add_mul_mod_self_left, Nat.mod_eq_of_lt (by omega)]
    rw [quotient, remainder]
    have scale : 0 < 2 ^ (m / P - 1) := by positivity
    refine Nat.mul_lt_mul_of_pos_right ?_ scale
    split <;> omega

/-- Decoding without FZ, by the exponent and the fraction of the magnitude. -/
theorem fpDecode_eq (f : FpFormat) (v : BitVec 64) : fpDecode f false false v =
    let m := fpMagnitude f v
    let neg := v.getLsbD (fpBits f - 1)
    if m / 2 ^ fracBits f = 0 then .num neg (m % 2 ^ fracBits f) (fpUnit f)
    else if m / 2 ^ fracBits f = 2 ^ expBits f - 1 then
      if m % 2 ^ fracBits f = 0 then .inf neg else .nan (decide (m % 2 ^ fracBits f < 2 ^ (fracBits f - 1))) v
    else .num neg (2 ^ fracBits f + m % 2 ^ fracBits f) (fpUnit f + (m / 2 ^ fracBits f : Nat) - 1) := by
  have exponent : fpMagnitude f v / 2 ^ fracBits f = v.toNat / 2 ^ fracBits f % 2 ^ expBits f := by
    rw [fpMagnitude, Nat.pow_add, Nat.mod_mul_right_div_self]
  have fraction : fpMagnitude f v % 2 ^ fracBits f = v.toNat % 2 ^ fracBits f := by
    rw [fpMagnitude, Nat.pow_add, Nat.mod_mul_right_mod]
  simp only [fpDecode, exponent, fraction, Bool.false_eq_true, if_false, and_true]

/-- A format has exponents below that of its infinities. -/
theorem expField_max_pos (f : FpFormat) : 0 < 2 ^ expBits f - 1 := by cases f <;> decide

theorem fpMagnitude_div_lt (f : FpFormat) (v : BitVec 64) : fpMagnitude f v / 2 ^ fracBits f < 2 ^ expBits f := by
  refine Nat.div_lt_of_lt_mul ?_
  rw [← Nat.pow_add]
  exact Nat.mod_lt _ (by positivity)

/-- Above the infinity stand the NaNs. -/
theorem fpDecode_nan {f : FpFormat} {v : BitVec 64} (above : fpInfinity f < fpMagnitude f v) :
    ∃ signalling, fpDecode f false false v = .nan signalling v := by
  have pos : 0 < 2 ^ fracBits f := by positivity
  have exponent : fpMagnitude f v / 2 ^ fracBits f = 2 ^ expBits f - 1 := by
    have low := (Nat.le_div_iff_mul_le pos).mpr above.le
    have high := fpMagnitude_div_lt f v
    omega
  have fraction : fpMagnitude f v % 2 ^ fracBits f ≠ 0 := by
    intro zero
    have whole := Nat.div_add_mod' (fpMagnitude f v) (2 ^ fracBits f)
    rw [exponent, zero, Nat.add_zero] at whole
    exact above.ne whole
  rw [fpDecode_eq]
  dsimp only
  rw [exponent, if_neg (expField_max_pos f).ne', if_pos rfl, if_neg fraction]
  exact ⟨_, rfl⟩

/-- An encoding that is no NaN stands for its sign and scaled magnitude. -/
theorem hasKey_fpDecode {f : FpFormat} {v : BitVec 64} (number : fpMagnitude f v ≤ fpInfinity f) :
    HasKey (fpUnit f) (fpScaled f (fpInfinity f)) (fpDecode f false false v)
      (signedInt (v.getLsbD (fpBits f - 1)) (fpScaled f (fpMagnitude f v))) := by
  have pos : 0 < 2 ^ fracBits f := by positivity
  have finite (exponent : fpMagnitude f v / 2 ^ fracBits f ≠ 2 ^ expBits f - 1) :
      fpScaled f (fpMagnitude f v) < fpScaled f (fpInfinity f) := by
    refine fpScaled_strictMono f (lt_of_le_of_ne number fun equal => exponent ?_)
    rw [equal, fpInfinity, Nat.mul_div_cancel _ pos]
  have infinite (exponent : fpMagnitude f v / 2 ^ fracBits f = 2 ^ expBits f - 1) : fpMagnitude f v = fpInfinity f :=
    le_antisymm number ((Nat.le_div_iff_mul_le pos).mp exponent.ge)
  rw [fpDecode_eq]
  dsimp only
  split
  next zero =>
    have below := finite (by rw [zero]; exact (expField_max_pos f).ne)
    rw [fpScaled_denormal zero] at below ⊢
    have key := HasKey.num (unit := fpUnit f) (v.getLsbD (fpBits f - 1)) _ 0 below
    rwa [Nat.cast_zero, Int.add_zero] at key
  next nonzero =>
    split
    next exponent =>
      have fraction : fpInfinity f % 2 ^ fracBits f = 0 := Nat.mul_mod_left ..
      rw [infinite exponent, if_pos fraction]
      exact .inf _
    next exponent =>
      have below := finite exponent
      rw [fpScaled_normal nonzero] at below ⊢
      rw [Int.add_sub_assoc, ← Nat.cast_pred (Nat.pos_of_ne_zero nonzero)]
      exact .num _ _ _ below

/-! ## Compares (R406) -/

/-- The sign and magnitude of an encoding, as an integer. -/
def fpKey (f : FpFormat) (v : BitVec 64) : Int := signedInt (v.getLsbD (fpBits f - 1)) (fpMagnitude f v)

theorem fpCompare_of_nan {f : FpFormat} {a b : BitVec 64}
    (nan : fpInfinity f < fpMagnitude f a ∨ fpInfinity f < fpMagnitude f b) : fpCompare f false a b = .unordered := by
  rw [fpCompare]
  obtain above | above := nan
  · obtain ⟨signalling, decoded⟩ := fpDecode_nan above
    rw [decoded]; rfl
  · obtain ⟨signalling, decoded⟩ := fpDecode_nan above
    rw [decoded]
    cases fpDecode f false false a <;> rfl

/-- Encodings that are no NaN compare by sign and magnitude. -/
theorem fpCompare_of_number {f : FpFormat} {a b : BitVec 64} (ha : ¬fpInfinity f < fpMagnitude f a)
    (hb : ¬fpInfinity f < fpMagnitude f b) : fpCompare f false a b = intRelation (fpKey f a) (fpKey f b) := by
  have pos : 0 < fpScaled f (fpInfinity f) := by
    rw [← fpScaled_zero f]
    exact fpScaled_strictMono f (Nat.mul_pos (expField_max_pos f) (by positivity))
  exact (fpOrder_of_hasKey (hasKey_fpDecode (not_lt.mp ha)) (hasKey_fpDecode (not_lt.mp hb)) pos).trans
    (intRelation_signedInt_map (fpScaled_strictMono f) (fpScaled_zero f) ..)

theorem toNat_and_eq_fpMagnitude (v : Word) : (v &&& 0x7FFFFFFFFFFFFFFF#64).toNat = fpMagnitude .double v :=
  Nat.and_two_pow_sub_one_eq_mod v.toNat 63

/-! ## Obligations -/

/-- Settles O60: the order of the decoded values is that of sign and magnitude. -/
theorem doubleCompare : Obligations.DoubleCompare := by
  unfold Obligations.DoubleCompare
  intro s signalling vm vn a b nan key
  have nan_iff (v : Word) : nan v ↔ fpInfinity .double < fpMagnitude .double v := by
    rw [← toNat_and_eq_fpMagnitude]; rfl
  have key_eq (v : Word) : key v = fpKey .double v := by
    rw [fpKey, ← toNat_and_eq_fpMagnitude]; rfl
  refine ⟨fun supported fz => ?_, whenFp_neg⟩
  have relation : s.fpRelation .double vn (some vm) = fpCompare .double false a b := by
    have operand (r : RegNum) : s.fpReg .double r = (s.zReg r).setWidth 64 := BitVec.setWidth_eq _
    have flush : (s.fpEnv 0).fz = false := fz
    rw [State.fpRelation, operand, flush]
    exact congrArg _ (operand vm)
  refine ⟨fpCompareFlags (s.fpRelation .double vn (some vm)), whenFp_pos supported, ?_⟩
  rw [relation]
  simp only [nan_iff, key_eq]
  refine ⟨fun h => ?_, fun ha hb => ?_⟩
  · rw [fpCompare_of_nan h]; rfl
  · rw [fpCompare_of_number ha hb]
    refine ⟨fun h => ?_, fun h => ?_, fun h => ?_⟩
    · rw [h, intRelation_self]; rfl
    · rw [intRelation_of_lt h]; rfl
    · rw [intRelation_of_gt h]; rfl

end Sys2Proof.Machine
end
